-- ==== Sys2Proof/Word.lean ====
section
/-! DEFINITION. The two word types of the machine: the data width and the address width of R5, R6. -/

namespace Sys2Proof

/-- A value of the 8-bit data channel (R5; `XLEN = 8` of R6). -/
abbrev Byte := BitVec 8

/-- A value of the 16-bit address channel (R5; `ALEN = 16` of R6): addresses, PC, SP, register pairs. -/
abbrev Word := BitVec 16

end Sys2Proof
end

