-- ==== Sys2Proof/Machine/Bits.lean ====
section
/-! DEFINITION. Byte order and bit fields: the primitives of R11 and the opcode fields of R103. -/

namespace Sys2Proof.Machine

/-- `hi8(w) = w[15:8]` (R11). -/
def hi8 (w : Word) : Byte := BitVec.ofNat 8 (w.toNat / 256)

/-- `lo8(w) = w[7:0]` (R11). -/
def lo8 (w : Word) : Byte := BitVec.ofNat 8 (w.toNat % 256)

/-- The concatenation `{h, l}` of R11: `256*h + l`. -/
def joinBytes (h l : Byte) : Word := BitVec.ofNat 16 (256 * h.toNat + l.toNat)

/-- Bits 7 to 6 of an opcode (R103). -/
def opX (op : Byte) : Nat := op.toNat / 64

/-- Bits 5 to 3 of an opcode (R103): `ddd`, `ooo`, `ccc` or `nnn`. -/
def opY (op : Byte) : Nat := op.toNat / 8 % 8

/-- Bits 2 to 0 of an opcode (R103): `sss`, or the fixed low bits. -/
def opZ (op : Byte) : Nat := op.toNat % 8

end Sys2Proof.Machine
end

