-- ==== Sys2Proof/Syntax.lean ====
section
/-! DEFINITION. The abstract syntax: one constructor of `Instr` per row of spec/opcode_table.json, in the table's order. -/

namespace Sys2Proof

/-- The register operands of R24 other than code 6, which is no register (R25). -/
inductive Reg where
  | b | c | d | e | h | l | a
deriving DecidableEq, Repr

/-- The pairs of LXI, INX, DCX and DAD (R26, third column). -/
inductive Pair where
  | bc | de | hl | sp
deriving DecidableEq, Repr

/-- The pairs of PUSH and POP other than PSW (R26, fourth column). -/
inductive StackPair where
  | bc | de | hl
deriving DecidableEq, Repr

/-- The pairs of LDAX and STAX (R26, fifth column). -/
inductive IndexPair where
  | bc | de
deriving DecidableEq, Repr

/-- The condition codes of R220, in the order of their three-bit field. -/
inductive Cond where
  | nz | z | nc | c | po | pe | p | m
deriving DecidableEq, Repr

/-- The instructions. -/
inductive Instr where
  /-- R141: `MOV r1,r2`. -/
  | movRR (dst src : Reg)
  /-- R142: `MOV r,M`. -/
  | movRM (dst : Reg)
  /-- R143: `MOV M,r`. -/
  | movMR (src : Reg)
  /-- R144: `MVI r,d8`. -/
  | mviR (dst : Reg) (d8 : Byte)
  /-- R145: `MVI M,d8`. -/
  | mviM (d8 : Byte)
  /-- R146: `LXI rp,d16`. -/
  | lxi (rp : Pair) (d16 : Word)
  /-- R147: `LDA a16`. -/
  | lda (a16 : Word)
  /-- R148: `STA a16`. -/
  | sta (a16 : Word)
  /-- R149: `LHLD a16`. -/
  | lhld (a16 : Word)
  /-- R150: `SHLD a16`. -/
  | shld (a16 : Word)
  /-- R151: `LDAX rp`. -/
  | ldax (rp : IndexPair)
  /-- R152: `STAX rp`. -/
  | stax (rp : IndexPair)
  /-- R153: `XCHG`. -/
  | xchg
  /-- R162: `ADD r`. -/
  | addR (src : Reg)
  /-- R163: `ADD M`. -/
  | addM
  /-- R164: `ADI d8`. -/
  | adi (d8 : Byte)
  /-- R165: `ADC r`. -/
  | adcR (src : Reg)
  /-- R166: `ADC M`. -/
  | adcM
  /-- R167: `ACI d8`. -/
  | aci (d8 : Byte)
  /-- R168: `SUB r`. -/
  | subR (src : Reg)
  /-- R169: `SUB M`. -/
  | subM
  /-- R170: `SUI d8`. -/
  | sui (d8 : Byte)
  /-- R171: `SBB r`. -/
  | sbbR (src : Reg)
  /-- R172: `SBB M`. -/
  | sbbM
  /-- R173: `SBI d8`. -/
  | sbi (d8 : Byte)
  /-- R174: `INR r`. -/
  | inrR (dst : Reg)
  /-- R175: `INR M`. -/
  | inrM
  /-- R176: `DCR r`. -/
  | dcrR (dst : Reg)
  /-- R177: `DCR M`. -/
  | dcrM
  /-- R178: `INX rp`. -/
  | inx (rp : Pair)
  /-- R179: `DCX rp`. -/
  | dcx (rp : Pair)
  /-- R184: `DAD rp`. -/
  | dad (rp : Pair)
  /-- R185: `DAA`. -/
  | daa
  /-- R191: `ANA r`. -/
  | anaR (src : Reg)
  /-- R192: `ANA M`. -/
  | anaM
  /-- R193: `ANI d8`. -/
  | ani (d8 : Byte)
  /-- R194: `XRA r`. -/
  | xraR (src : Reg)
  /-- R195: `XRA M`. -/
  | xraM
  /-- R196: `XRI d8`. -/
  | xri (d8 : Byte)
  /-- R197: `ORA r`. -/
  | oraR (src : Reg)
  /-- R198: `ORA M`. -/
  | oraM
  /-- R199: `ORI d8`. -/
  | ori (d8 : Byte)
  /-- R200: `CMP r`. -/
  | cmpR (src : Reg)
  /-- R201: `CMP M`. -/
  | cmpM
  /-- R202: `CPI d8`. -/
  | cpi (d8 : Byte)
  /-- R203: `RLC`. -/
  | rlc
  /-- R204: `RRC`. -/
  | rrc
  /-- R205: `RAL`. -/
  | ral
  /-- R206: `RAR`. -/
  | rar
  /-- R207: `CMA`. -/
  | cma
  /-- R208: `CMC`. -/
  | cmc
  /-- R209: `STC`. -/
  | stc
  /-- R221: `JMP a16`. -/
  | jmp (a16 : Word)
  /-- R222: `JNZ a16`. -/
  | jnz (a16 : Word)
  /-- R223: `JZ a16`. -/
  | jz (a16 : Word)
  /-- R224: `JNC a16`. -/
  | jnc (a16 : Word)
  /-- R225: `JC a16`. -/
  | jc (a16 : Word)
  /-- R226: `JPO a16`. -/
  | jpo (a16 : Word)
  /-- R227: `JPE a16`. -/
  | jpe (a16 : Word)
  /-- R228: `JP a16`. -/
  | jp (a16 : Word)
  /-- R229: `JM a16`. -/
  | jm (a16 : Word)
  /-- R230: `CALL a16`. -/
  | call (a16 : Word)
  /-- R231: `CNZ a16`. -/
  | cnz (a16 : Word)
  /-- R232: `CZ a16`. -/
  | cz (a16 : Word)
  /-- R233: `CNC a16`. -/
  | cnc (a16 : Word)
  /-- R234: `CC a16`. -/
  | cc (a16 : Word)
  /-- R235: `CPO a16`. -/
  | cpo (a16 : Word)
  /-- R236: `CPE a16`. -/
  | cpe (a16 : Word)
  /-- R237: `CP a16`. -/
  | cp (a16 : Word)
  /-- R238: `CM a16`. -/
  | cm (a16 : Word)
  /-- R239: `RET`. -/
  | ret
  /-- R240: `RNZ`. -/
  | rnz
  /-- R241: `RZ`. -/
  | rz
  /-- R242: `RNC`. -/
  | rnc
  /-- R243: `RC`. -/
  | rc
  /-- R244: `RPO`. -/
  | rpo
  /-- R245: `RPE`. -/
  | rpe
  /-- R246: `RP`. -/
  | rp
  /-- R247: `RM`. -/
  | rm
  /-- R248: `RST n`. -/
  | rst (n : BitVec 3)
  /-- R249: `PCHL`. -/
  | pchl
  /-- R260: `PUSH rp`. -/
  | pushRp (rp : StackPair)
  /-- R261: `PUSH PSW`. -/
  | pushPsw
  /-- R262: `POP rp`. -/
  | popRp (rp : StackPair)
  /-- R263: `POP PSW`. -/
  | popPsw
  /-- R264: `XTHL`. -/
  | xthl
  /-- R265: `SPHL`. -/
  | sphl
  /-- R266: `IN port`. -/
  | inPort (port : Byte)
  /-- R267: `OUT port`. -/
  | outPort (port : Byte)
  /-- R273: `EI`. -/
  | ei
  /-- R274: `DI`. -/
  | di
  /-- R275: `HLT`. -/
  | hlt
  /-- R276: `NOP`. -/
  | nop
  /-- R281: `*NOP`, opcode `00 nnn 000` with `nnn` not 000. -/
  | undocNop (n : BitVec 3)
  /-- R282: `*JMP a16`. -/
  | undocJmp (a16 : Word)
  /-- R283: `*RET`. -/
  | undocRet
  /-- R284: `*CALL a16`, opcode `11 xx1 101` with `xx` not 00. -/
  | undocCall (xx : BitVec 2) (a16 : Word)
deriving DecidableEq, Repr

end Sys2Proof
end

