-- ==== Sys2Proof/WellFormed.lean ====
section
/-! DEFINITION. Which terms of `Instr` stand for an opcode of R107. The operand types of Syntax.lean leave two checks. -/

namespace Sys2Proof

/-- The field checks of R281 (`nnn` from 001: 000 is NOP) and R284 (`xx` from 01: 00 is CALL); every other term of the syntax
has an encoding (R110). -/
def Instr.wellFormed : Instr → Bool
  | .undocNop n => n != 0#3
  | .undocCall xx _ => xx != 0#2
  | _ => true

end Sys2Proof
end

