-- ==== Sys2Proof/Decode.lean ====
section
/-! DEFINITION. From bytes to instructions and back: the length function of R108, the opcode map of R107 read by the fields of
R103, the byte layout of R103 and R105, and the encoder written from the same tables. -/

namespace Sys2Proof

open Sys2Proof.Machine

/-- `Length(op)` of R108, by its formula: bytes in the instruction whose first byte is `op`. -/
def opLength (op : Byte) : Nat :=
  if opX op = 0 ∧ opZ op = 6 ∨ opX op = 3 ∧ opZ op = 6 ∨ op = 0xD3#8 ∨ op = 0xDB#8 then 2
  else if opX op = 0 ∧ opZ op = 1 ∧ opY op % 2 = 0 ∨ op = 0x22#8 ∨ op = 0x2A#8 ∨ op = 0x32#8 ∨ op = 0x3A#8
      ∨ opX op = 3 ∧ (opZ op = 2 ∨ opZ op = 4)
      ∨ op = 0xC3#8 ∨ op = 0xCB#8 ∨ op = 0xCD#8 ∨ op = 0xDD#8 ∨ op = 0xED#8 ∨ op = 0xFD#8 then 3
  else 1

/-- The twelve opcodes of R109, which the documentation assigns to no instruction. -/
def undocumentedOpcodes : List Byte :=
  [0x08#8, 0x10#8, 0x18#8, 0x20#8, 0x28#8, 0x30#8, 0x38#8, 0xCB#8, 0xD9#8, 0xDD#8, 0xED#8, 0xFD#8]

/-- The register of a three-bit code (R24); code 6 is no register and no caller passes it. -/
def Reg.ofCode : Nat → Reg
  | 0 => .b
  | 1 => .c
  | 2 => .d
  | 3 => .e
  | 4 => .h
  | 5 => .l
  | _ => .a

/-- The pair of a two-bit code in LXI, INX, DCX and DAD (R26). -/
def Pair.ofCode : Nat → Pair
  | 0 => .bc
  | 1 => .de
  | 2 => .hl
  | _ => .sp

/-- The pair of a two-bit code in PUSH and POP (R26); code 3 is PSW and no caller passes it. -/
def StackPair.ofCode : Nat → StackPair
  | 0 => .bc
  | 1 => .de
  | _ => .hl

/-- Opcodes 00 to 3F of R107, by bits 2 to 0 (`z`) and bits 5 to 3 (`y`). -/
def decodeLow (z y : Nat) (d8 : Byte) (d16 : Word) : Instr :=
  match z with
  | 0 => if y = 0 then .nop else .undocNop (BitVec.ofNat 3 y)
  | 1 => if y % 2 = 0 then .lxi (.ofCode (y / 2)) d16 else .dad (.ofCode (y / 2))
  | 2 =>
    match y with
    | 0 => .stax .bc
    | 1 => .ldax .bc
    | 2 => .stax .de
    | 3 => .ldax .de
    | 4 => .shld d16
    | 5 => .lhld d16
    | 6 => .sta d16
    | _ => .lda d16
  | 3 => if y % 2 = 0 then .inx (.ofCode (y / 2)) else .dcx (.ofCode (y / 2))
  | 4 => if y = 6 then .inrM else .inrR (.ofCode y)
  | 5 => if y = 6 then .dcrM else .dcrR (.ofCode y)
  | 6 => if y = 6 then .mviM d8 else .mviR (.ofCode y) d8
  | _ =>
    match y with
    | 0 => .rlc
    | 1 => .rrc
    | 2 => .ral
    | 3 => .rar
    | 4 => .daa
    | 5 => .cma
    | 6 => .stc
    | _ => .cmc

/-- Opcodes 40 to 7F of R107: MOV, and HLT where both fields are 6 (R112). -/
def decodeMove (z y : Nat) : Instr :=
  if z = 6 then (if y = 6 then .hlt else .movRM (.ofCode y))
  else if y = 6 then .movMR (.ofCode z) else .movRR (.ofCode y) (.ofCode z)

/-- Opcodes 80 to BF of R107: the eight operations `ooo` of R104 on `sss`. -/
def decodeAlu (z y : Nat) : Instr :=
  match y with
  | 0 => if z = 6 then .addM else .addR (.ofCode z)
  | 1 => if z = 6 then .adcM else .adcR (.ofCode z)
  | 2 => if z = 6 then .subM else .subR (.ofCode z)
  | 3 => if z = 6 then .sbbM else .sbbR (.ofCode z)
  | 4 => if z = 6 then .anaM else .anaR (.ofCode z)
  | 5 => if z = 6 then .xraM else .xraR (.ofCode z)
  | 6 => if z = 6 then .oraM else .oraR (.ofCode z)
  | _ => if z = 6 then .cmpM else .cmpR (.ofCode z)

/-- Opcodes C0 to FF of R107. -/
def decodeHigh (z y : Nat) (d8 : Byte) (d16 : Word) : Instr :=
  match z with
  | 0 =>
    match y with
    | 0 => .rnz
    | 1 => .rz
    | 2 => .rnc
    | 3 => .rc
    | 4 => .rpo
    | 5 => .rpe
    | 6 => .rp
    | _ => .rm
  | 1 =>
    match y with
    | 1 => .ret
    | 3 => .undocRet
    | 5 => .pchl
    | 7 => .sphl
    | 6 => .popPsw
    | y => .popRp (.ofCode (y / 2))
  | 2 =>
    match y with
    | 0 => .jnz d16
    | 1 => .jz d16
    | 2 => .jnc d16
    | 3 => .jc d16
    | 4 => .jpo d16
    | 5 => .jpe d16
    | 6 => .jp d16
    | _ => .jm d16
  | 3 =>
    match y with
    | 0 => .jmp d16
    | 1 => .undocJmp d16
    | 2 => .outPort d8
    | 3 => .inPort d8
    | 4 => .xthl
    | 5 => .xchg
    | 6 => .di
    | _ => .ei
  | 4 =>
    match y with
    | 0 => .cnz d16
    | 1 => .cz d16
    | 2 => .cnc d16
    | 3 => .cc d16
    | 4 => .cpo d16
    | 5 => .cpe d16
    | 6 => .cp d16
    | _ => .cm d16
  | 5 =>
    match y with
    | 1 => .call d16
    | 3 => .undocCall 1#2 d16
    | 5 => .undocCall 2#2 d16
    | 7 => .undocCall 3#2 d16
    | 6 => .pushPsw
    | y => .pushRp (.ofCode (y / 2))
  | 6 =>
    match y with
    | 0 => .adi d8
    | 1 => .aci d8
    | 2 => .sui d8
    | 3 => .sbi d8
    | 4 => .ani d8
    | 5 => .xri d8
    | 6 => .ori d8
    | _ => .cpi d8
  | _ => .rst (BitVec.ofNat 3 y)

/-- The opcode map of R107, total over all 256 first bytes (R110, R111). `b2` and `b3` are the second and third bytes, used
where the length of R108 has them: `d8` and `port` are `b2`, `d16` and `a16` are `{b3, b2}` (R105). -/
def decodeFields (op b2 b3 : Byte) : Instr :=
  match opX op with
  | 0 => decodeLow (opZ op) (opY op) b2 (joinBytes b3 b2)
  | 1 => decodeMove (opZ op) (opY op)
  | 2 => decodeAlu (opZ op) (opY op)
  | _ => decodeHigh (opZ op) (opY op) b2 (joinBytes b3 b2)

/-- Why a list of bytes is no instruction. Only its being too short can be the reason (R111). -/
inductive DecodeError where
  /-- There is no first byte. -/
  | empty
  /-- The first byte asks for more bytes than there are. -/
  | truncated
deriving DecidableEq, Repr

/-- What the decoder answers: an instruction with the bytes after it, or a rejection by name. -/
inductive Decoded where
  | instr (i : Instr) (rest : List Byte)
  | rejected (why : DecodeError)
deriving DecidableEq, Repr

/-- Decode the instruction at the head of a list of bytes (R102, R111). -/
def decode (bytes : List Byte) : Decoded :=
  match bytes with
  | [] => .rejected .empty
  | op :: rest =>
    match opLength op, rest with
    | 1, rest => .instr (decodeFields op 0#8 0#8) rest
    | 2, b2 :: rest => .instr (decodeFields op b2 0#8) rest
    | 3, b2 :: b3 :: rest => .instr (decodeFields op b2 b3) rest
    | _, _ => .rejected .truncated

/-- The register code of R24. -/
def Reg.code : Reg → Byte
  | .b => 0#8
  | .c => 1#8
  | .d => 2#8
  | .e => 3#8
  | .h => 4#8
  | .l => 5#8
  | .a => 7#8

/-- The pair code of R26 in LXI, INX, DCX and DAD. -/
def Pair.code : Pair → Byte
  | .bc => 0#8
  | .de => 1#8
  | .hl => 2#8
  | .sp => 3#8

/-- The pair code of R26 in PUSH and POP. -/
def StackPair.code : StackPair → Byte
  | .bc => 0#8
  | .de => 1#8
  | .hl => 2#8

/-- The pair code of R26 in LDAX and STAX. -/
def IndexPair.code : IndexPair → Byte
  | .bc => 0#8
  | .de => 1#8

/-- An opcode pattern with one field `f` laid in at bit `k` (R103). -/
def withField (pattern : Byte) (f : Byte) (k : Nat) : Byte := pattern ||| (f <<< k)

/-- The bytes `op`, low byte, high byte of the `+I16` formats (R103, R66). -/
def wideForm (op : Byte) (w : Word) : List Byte := [op, lo8 w, hi8 w]

/-- The bytes of an instruction, each case from its own rule's *Encoding* entry (R141 to R284). -/
def encode : Instr → List Byte
  | .movRR dst r => [withField (withField 0x40#8 dst.code 3) r.code 0]
  | .movRM dst => [withField 0x46#8 dst.code 3]
  | .movMR r => [withField 0x70#8 r.code 0]
  | .mviR dst v => [withField 0x06#8 dst.code 3, v]
  | .mviM v => [0x36#8, v]
  | .lxi p w => wideForm (withField 0x01#8 p.code 4) w
  | .lda w => wideForm 0x3A#8 w
  | .sta w => wideForm 0x32#8 w
  | .lhld w => wideForm 0x2A#8 w
  | .shld w => wideForm 0x22#8 w
  | .ldax p => [withField 0x0A#8 p.code 4]
  | .stax p => [withField 0x02#8 p.code 4]
  | .xchg => [0xEB#8]
  | .addR r => [withField 0x80#8 r.code 0]
  | .addM => [0x86#8]
  | .adi v => [0xC6#8, v]
  | .adcR r => [withField 0x88#8 r.code 0]
  | .adcM => [0x8E#8]
  | .aci v => [0xCE#8, v]
  | .subR r => [withField 0x90#8 r.code 0]
  | .subM => [0x96#8]
  | .sui v => [0xD6#8, v]
  | .sbbR r => [withField 0x98#8 r.code 0]
  | .sbbM => [0x9E#8]
  | .sbi v => [0xDE#8, v]
  | .inrR dst => [withField 0x04#8 dst.code 3]
  | .inrM => [0x34#8]
  | .dcrR dst => [withField 0x05#8 dst.code 3]
  | .dcrM => [0x35#8]
  | .inx p => [withField 0x03#8 p.code 4]
  | .dcx p => [withField 0x0B#8 p.code 4]
  | .dad p => [withField 0x09#8 p.code 4]
  | .daa => [0x27#8]
  | .anaR r => [withField 0xA0#8 r.code 0]
  | .anaM => [0xA6#8]
  | .ani v => [0xE6#8, v]
  | .xraR r => [withField 0xA8#8 r.code 0]
  | .xraM => [0xAE#8]
  | .xri v => [0xEE#8, v]
  | .oraR r => [withField 0xB0#8 r.code 0]
  | .oraM => [0xB6#8]
  | .ori v => [0xF6#8, v]
  | .cmpR r => [withField 0xB8#8 r.code 0]
  | .cmpM => [0xBE#8]
  | .cpi v => [0xFE#8, v]
  | .rlc => [0x07#8]
  | .rrc => [0x0F#8]
  | .ral => [0x17#8]
  | .rar => [0x1F#8]
  | .cma => [0x2F#8]
  | .cmc => [0x3F#8]
  | .stc => [0x37#8]
  | .jmp w => wideForm 0xC3#8 w
  | .jnz w => wideForm 0xC2#8 w
  | .jz w => wideForm 0xCA#8 w
  | .jnc w => wideForm 0xD2#8 w
  | .jc w => wideForm 0xDA#8 w
  | .jpo w => wideForm 0xE2#8 w
  | .jpe w => wideForm 0xEA#8 w
  | .jp w => wideForm 0xF2#8 w
  | .jm w => wideForm 0xFA#8 w
  | .call w => wideForm 0xCD#8 w
  | .cnz w => wideForm 0xC4#8 w
  | .cz w => wideForm 0xCC#8 w
  | .cnc w => wideForm 0xD4#8 w
  | .cc w => wideForm 0xDC#8 w
  | .cpo w => wideForm 0xE4#8 w
  | .cpe w => wideForm 0xEC#8 w
  | .cp w => wideForm 0xF4#8 w
  | .cm w => wideForm 0xFC#8 w
  | .ret => [0xC9#8]
  | .rnz => [0xC0#8]
  | .rz => [0xC8#8]
  | .rnc => [0xD0#8]
  | .rc => [0xD8#8]
  | .rpo => [0xE0#8]
  | .rpe => [0xE8#8]
  | .rp => [0xF0#8]
  | .rm => [0xF8#8]
  | .rst n => [withField 0xC7#8 (n.setWidth 8) 3]
  | .pchl => [0xE9#8]
  | .pushRp p => [withField 0xC5#8 p.code 4]
  | .pushPsw => [0xF5#8]
  | .popRp p => [withField 0xC1#8 p.code 4]
  | .popPsw => [0xF1#8]
  | .xthl => [0xE3#8]
  | .sphl => [0xF9#8]
  | .inPort v => [0xDB#8, v]
  | .outPort v => [0xD3#8, v]
  | .ei => [0xFB#8]
  | .di => [0xF3#8]
  | .hlt => [0x76#8]
  | .nop => [0x00#8]
  | .undocNop n => [withField 0x00#8 (n.setWidth 8) 3]
  | .undocJmp w => wideForm 0xCB#8 w
  | .undocRet => [0xD9#8]
  | .undocCall xx w => wideForm (withField 0xCD#8 (xx.setWidth 8) 4) w

/-- The three bytes, first byte first, of a number that holds an instruction of `nbits` bits as spec/opcode_table.json numbers
them; what lies above `nbits` is zero. -/
def tableBytes (nbits w : Nat) : List Byte :=
  let v := w % 2 ^ nbits
  [BitVec.ofNat 8 v, BitVec.ofNat 8 (v / 256), BitVec.ofNat 8 (v / 65536)]

/-- The instruction the decoder reads from such a number. -/
def decodeTableWord (nbits w : Nat) : Option Instr :=
  match decode (tableBytes nbits w) with
  | .instr i _ => some i
  | .rejected _ => none

end Sys2Proof
end

