-- ==== Sys2Proof/Config.lean ====
section
/-! DEFINITION. What the platform fixes (the parameters of R9) and the values the spec leaves free. The parameters are data
that State holds, so that every statement speaks of every choice of them. -/

namespace Sys2Proof

/-- `undoc_policy` (R9, R280): what the twelve undocumented opcodes do. -/
inductive UndocPolicy where
  /-- (a) of R280: the model refuses. -/
  | refuse
  /-- (b) of R280, `alias`: the documented instruction of R281 to R284. -/
  | asDocumented
deriving DecidableEq, Repr

/-- `and_ac_rule` (R9, R190): the auxiliary carry of ANA and ANI. -/
inductive AndAcRule where
  | orBit3
  | set
  | clear
deriving DecidableEq, Repr

/-- The classes of `mem_map` (R74). -/
inductive MemClass where
  /-- Reads return the last byte written. -/
  | ram
  /-- Reads return a fixed byte, writes have no effect. -/
  | rom
  /-- Reads return a free value, writes have no effect. -/
  | absent
  /-- A memory-mapped device: the spec leaves its answers to the platform (R71, R74). -/
  | device
deriving DecidableEq, Repr

/-- One entry of `mem_map`: the addresses `first` to `last`, both included, are of class `cls`. -/
structure Region where
  first : Nat
  last : Nat
  cls : MemClass
deriving DecidableEq, Repr

/-- The parameters of R9 that are not host behaviour. -/
structure Platform where
  /-- `undoc_policy` (R280). -/
  undoc : UndocPolicy
  /-- `and_ac_rule` (R190). -/
  andAc : AndAcRule
  /-- `mem_map` (R74): the first region that holds an address gives its class; an address in none is ram. -/
  memMap : List Region
  /-- `stack_separate` (R82). -/
  stackSeparate : Bool
  /-- `int_instr_policy` (R308): the opcodes a device may supply. -/
  intPolicy : List Byte
deriving DecidableEq, Repr

/-- The free bytes: the n-th draw of an 8-bit value the spec leaves open (R42, R64, R74; log entry 7). No body: nothing
constrains it. Safe. -/
opaque Config.freeByte : Nat → Byte

/-- The free 16-bit values: SP after a RESET (R42; log entry 7). Safe. -/
opaque Config.freeWord : Nat → Word

/-- The free bits: the flags after a RESET (R42; log entry 7). Safe. -/
opaque Config.freeBit : Nat → Bool

end Sys2Proof
end

