-- ==== Sys2Proof/Machine/Defaults.lean ====
section
/-! DEFINITION. The defaults that R9 gives the platform's parameters. -/

namespace Sys2Proof

/-- The default `int_instr_policy` of R9: the eight RST opcodes and CALL. -/
def Config.restartsAndCall : List Byte :=
  [0xC7#8, 0xCF#8, 0xD7#8, 0xDF#8, 0xE7#8, 0xEF#8, 0xF7#8, 0xFF#8, 0xCD#8]

/-- The defaults of R9. -/
def Config.defaults : Platform where
  undoc := .refuse
  andAc := .orBit3
  memMap := []
  stackSeparate := false
  intPolicy := Config.restartsAndCall

end Sys2Proof
end

