-- ==== Sys2Proof/Machine/State.lean ====
section
/-! DEFINITION. The state of the machine: all of R20, the memory and devices outside the processor, the host's coming behaviour
as data, and the outcomes that are not a next state. -/

namespace Sys2Proof.Machine

/-- The accumulator (R22) and the six registers of the register RAM (R21). -/
structure Regs where
  b : Byte
  c : Byte
  d : Byte
  e : Byte
  h : Byte
  l : Byte
  a : Byte
deriving DecidableEq, Repr

/-- The five condition flags (R31). -/
structure Flags where
  s : Bool
  z : Bool
  ac : Bool
  p : Bool
  cy : Bool
deriving DecidableEq, Repr

/-- A memory of 65536 bytes (R60): the bytes that differ from what an unlisted address reads as, at strictly rising addresses. -/
abbrev Memory := List Host.Cell

/-- What a byte that nothing has written reads as: 0. DESIGN CHOICE, unsafe (log entry 3): RAM is unspecified at power-on (R42). -/
def Memory.unlisted : Byte := 0#8

/-- The `kind` argument of the memory primitives (R14, R68), the two sorts of fetch kept apart by their status byte (R69). -/
inductive Kind where
  /-- The fetch of an opcode. -/
  | opcode
  /-- The fetch of a second or third byte. -/
  | operand
  | data
  | stack
deriving DecidableEq, Repr

/-- One machine cycle, with what it moved (R68). -/
inductive BusCycle where
  | opcode (addr : Word) (v : Byte)
  | operand (addr : Word) (v : Byte)
  | read (addr : Word) (v : Byte)
  | write (addr : Word) (v : Byte)
  | stackRead (addr : Word) (v : Byte)
  | stackWrite (addr : Word) (v : Byte)
  | input (port : Byte) (v : Byte)
  | output (port : Byte) (v : Byte)
  /-- The acknowledge cycle; `fromHalt` where it leaves the halt state. The address is PC (R307). -/
  | intAck (addr : Word) (v : Byte) (fromHalt : Bool)
  /-- No transfer (R68). -/
  | haltAck
deriving DecidableEq, Repr

/-- One output event of R64. -/
structure OutEvent where
  port : Byte
  v : Byte
deriving DecidableEq, Repr

/-- What the host does at one instruction boundary (R320), and while the step that follows lasts. -/
structure HostEvent where
  /-- Clock periods the RESET signal is held; 0 where it is not raised (R340, R341). -/
  resetPeriods : Nat
  /-- Where RESET arrives inside an instruction: how many machine cycles of it had completed (R342); 0 at a boundary. -/
  abandonAfter : Nat
  /-- Clock periods of WAIT and HOLD the host adds (R326, R327, R359); none where READY or HOLD never lets go (U8). -/
  stall : Option Nat
  /-- The level of INT (R305). -/
  int : Bool
  /-- The bytes the interrupting device supplies (R308). -/
  ack1 : Byte
  ack2 : Byte
  ack3 : Byte
deriving DecidableEq, Repr

/-- The host that does nothing: the defaults of R9. -/
def HostEvent.quiet : HostEvent where
  resetPeriods := 0
  abandonAfter := 0
  stall := some 0
  int := false
  ack1 := 0#8
  ack2 := 0#8
  ack3 := 0#8

/-- The host's coming behaviour, first entry first; a list that has run out means a quiet host (log entry 6). -/
structure HostScript where
  /-- One event for each boundary (`int_source` and RESET of R9, R320). -/
  events : List HostEvent
  /-- The bytes the coming IN instructions receive (`io_in` of R9, R64). -/
  ioIn : List Byte
  /-- What another bus master writes before each coming machine cycle (`dma_agent` of R9, R76 (c)). -/
  dma : List (List (Word × Byte))
deriving DecidableEq, Repr

/-- The machine. -/
structure State where
  /-- A and B to L (R21, R22). -/
  regs : Regs
  /-- S, Z, AC, P, CY (R31). -/
  flags : Flags
  /-- The stack pointer (R30). -/
  sp : Word
  /-- The program counter (R28). -/
  pc : Word
  /-- The interrupt-enable flip-flop (R35). -/
  inte : Bool
  /-- The one-instruction delay after EI (R37). -/
  intInhibit : Bool
  /-- The halt state (R39). -/
  halted : Bool
  /-- The memory (R60). -/
  mem : Memory
  /-- The memory of the stack, where the platform keeps it apart (R82). -/
  stackMem : Memory
  /-- The outputs so far, in program order (R64). -/
  ioOut : List OutEvent
  /-- The machine cycles of the step so far, in order (R68, R81). -/
  bus : List BusCycle
  /-- The clock states spent so far (R358, R359). -/
  clock : Nat
  /-- The model's own: how many free values have been drawn (log entry 7). -/
  draws : Nat
  /-- What the host will do. -/
  host : HostScript
  /-- The parameters of R9. -/
  cfg : Platform
deriving DecidableEq, Repr

/-- Why a step stops with a fault. The processor itself raises none (R300). -/
inductive Fault where
  /-- Raised by a boundary whose host holds READY at 0 or HOLD at 1 for ever: the stuck machine of U8 (R85, R326, R327).
  Safe: nothing can be proved of what follows. -/
  | busHeld
deriving DecidableEq, Repr

/-- Why a step has no meaning (`refuse` of R15). -/
inductive Refusal where
  /-- Raised by an arm of exec that has no meaning yet. Safe. -/
  | notModelled (mnemonic : String)
  /-- Raised by *NOP, *JMP, *RET and *CALL where `undoc_policy` is `refuse` (R280). Safe. -/
  | undocumentedOpcode
  /-- Raised by interrupt acceptance where the supplied opcode is outside `int_instr_policy` (R311). Safe. -/
  | suppliedNotAdmitted (op : Byte)
  /-- Raised by interrupt acceptance where the policy lets in an opcode of two or three bytes other than CALL: where its
  later bytes come from is not settled (R311, U6). Safe. -/
  | suppliedBytesUnsettled (op : Byte)
  /-- Raised by a RESET pulse of one or two clock periods (R341, U7). Safe. -/
  | shortReset
deriving DecidableEq, Repr

/-- The outcome of an instruction or a step. -/
abbrev Result := Host.Outcome State Fault Refusal

/-- The machine right after reset (R340, R42): PC, INTE, int_inhibit and halted are 0. The registers, the flags and SP, which
the spec leaves unspecified, are 0: DESIGN CHOICE, unsafe (log entry 2). Memory lists nothing, the host is quiet. -/
def State.reset : State where
  regs := { b := 0#8, c := 0#8, d := 0#8, e := 0#8, h := 0#8, l := 0#8, a := 0#8 }
  flags := { s := false, z := false, ac := false, p := false, cy := false }
  sp := 0#16
  pc := 0#16
  inte := false
  intInhibit := false
  halted := false
  mem := []
  stackMem := []
  ioOut := []
  bus := []
  clock := 0
  draws := 0
  host := { events := [], ioIn := [], dma := [] }
  cfg := Config.defaults

end Sys2Proof.Machine
end

