-- ==== Sys2Proof/Machine/Flags.lean ====
section
/-! DEFINITION. The 8-bit adder and every flag computation of the spec (R16, R31 to R33, R160, R161, R185, R190). -/

namespace Sys2Proof.Machine

/-- The triple `(r, cy, ac)` of R160 and R161. -/
structure AluOut where
  v : Byte
  cy : Bool
  ac : Bool
deriving DecidableEq, Repr

/-- `parity8(v)` (R12): the number of 1 bits is even. -/
def parity8 (v : Byte) : Bool :=
  ((v.getLsbD 0).toNat + (v.getLsbD 1).toNat + (v.getLsbD 2).toNat + (v.getLsbD 3).toNat
    + (v.getLsbD 4).toNat + (v.getLsbD 5).toNat + (v.getLsbD 6).toNat + (v.getLsbD 7).toNat) % 2 == 0

/-- `Add8(a, b, cin)` (R160). -/
def add8 (a b : Byte) (cin : Bool) : AluOut :=
  let t := a.toNat + b.toNat + cin.toNat
  { v := BitVec.ofNat 8 t, cy := decide (256 ≤ t), ac := decide (16 ≤ a.toNat % 16 + b.toNat % 16 + cin.toNat) }

/-- `Sub8(a, b, bin)` (R161): the adder on the complement, its carry inverted, its auxiliary carry not. -/
def sub8 (a b : Byte) (bin : Bool) : AluOut :=
  let t := add8 a (~~~b) (!bin)
  { v := t.v, cy := !t.cy, ac := t.ac }

/-- `SetSZP(v)` (R16). -/
def Flags.setSZP (f : Flags) (v : Byte) : Flags := { f with s := v.getLsbD 7, z := v == 0#8, p := parity8 v }

/-- All five flags from an adder's output: `CY <- cy; AC <- ac; SetSZP(v)` (R162 to R173, R200 to R202). -/
def Flags.ofAlu (f : Flags) (o : AluOut) : Flags := ({ f with cy := o.cy, ac := o.ac }).setSZP o.v

/-- `AC <- ac; SetSZP(v)`, CY kept (R174 to R177). -/
def Flags.ofCount (f : Flags) (o : AluOut) : Flags := ({ f with ac := o.ac }).setSZP o.v

/-- `CY <- 0; AC <- ac; SetSZP(v)` (R191 to R199). -/
def Flags.ofLogic (f : Flags) (v : Byte) (ac : Bool) : Flags := ({ f with cy := false, ac := ac }).setSZP v

/-- `and_ac(A, v)` (R190). -/
def andAc (rule : AndAcRule) (a v : Byte) : Bool :=
  match rule with
  | .orBit3 => (a ||| v).getLsbD 3
  | .set => true
  | .clear => false

/-- `FlagByte()` (R32): `{S, Z, 0, AC, 0, P, 1, CY}`. -/
def Flags.byte (f : Flags) : Byte :=
  BitVec.ofNat 8 (128 * f.s.toNat + 64 * f.z.toNat + 16 * f.ac.toNat + 4 * f.p.toNat + 2 + f.cy.toNat)

/-- `SetFlagByte(v)` (R32): bits 5, 3 and 1 are ignored. -/
def Flags.ofByte (v : Byte) : Flags where
  s := v.getLsbD 7
  z := v.getLsbD 6
  ac := v.getLsbD 4
  p := v.getLsbD 2
  cy := v.getLsbD 0

/-- The low test of DAA (R185). -/
def daaLow (a : Byte) (f : Flags) : Bool := decide (9 < a.toNat % 16) || f.ac

/-- The high test of DAA (R185). -/
def daaHigh (a : Byte) (f : Flags) : Bool :=
  decide (9 < a.toNat / 16) || f.cy || (decide (9 ≤ a.toNat / 16) && decide (9 < a.toNat % 16))

/-- `adj` of DAA (R185). -/
def daaAdjust (a : Byte) (f : Flags) : Byte :=
  (if daaLow a f then 0x06#8 else 0#8) + (if daaHigh a f then 0x60#8 else 0#8)

/-- The carry of an addition of 16-bit values (R184). -/
def carry16 (a b : Word) : Bool := decide (65536 ≤ a.toNat + b.toNat)

end Sys2Proof.Machine
end

