-- ==== Sys2Proof/Machine/Operands.lean ====
section
/-! DEFINITION. The operand forms of R106 that are registers: `r[c]` (R24), `rp[c]` (R26), and the condition test (R220). -/

namespace Sys2Proof.Machine

/-- `r[c]` (R24). -/
def Regs.get (rs : Regs) (r : Reg) : Byte :=
  match r with
  | .b => rs.b
  | .c => rs.c
  | .d => rs.d
  | .e => rs.e
  | .h => rs.h
  | .l => rs.l
  | .a => rs.a

/-- `r[c] <- v` (R24). -/
def Regs.set (rs : Regs) (r : Reg) (v : Byte) : Regs :=
  match r with
  | .b => { rs with b := v }
  | .c => { rs with c := v }
  | .d => { rs with d := v }
  | .e => { rs with e := v }
  | .h => { rs with h := v }
  | .l => { rs with l := v }
  | .a => { rs with a := v }

/-- The pair BC (R23). -/
def Regs.bc (rs : Regs) : Word := joinBytes rs.b rs.c

/-- The pair DE (R23). -/
def Regs.de (rs : Regs) : Word := joinBytes rs.d rs.e

/-- The pair HL (R23). -/
def Regs.hl (rs : Regs) : Word := joinBytes rs.h rs.l

/-- Writing BC writes both registers (R23). -/
def Regs.setBc (rs : Regs) (w : Word) : Regs := { rs with b := hi8 w, c := lo8 w }

/-- Writing DE writes both registers (R23). -/
def Regs.setDe (rs : Regs) (w : Word) : Regs := { rs with d := hi8 w, e := lo8 w }

/-- Writing HL writes both registers (R23). -/
def Regs.setHl (rs : Regs) (w : Word) : Regs := { rs with h := hi8 w, l := lo8 w }

/-- `rp[c]` of PUSH (R26). -/
def Regs.stackPair (rs : Regs) (p : StackPair) : Word :=
  match p with
  | .bc => rs.bc
  | .de => rs.de
  | .hl => rs.hl

/-- `rp[c] <- w` of POP (R26). -/
def Regs.setStackPair (rs : Regs) (p : StackPair) (w : Word) : Regs :=
  match p with
  | .bc => rs.setBc w
  | .de => rs.setDe w
  | .hl => rs.setHl w

/-- The address of LDAX and STAX (R26). -/
def Regs.indexPair (rs : Regs) (p : IndexPair) : Word :=
  match p with
  | .bc => rs.bc
  | .de => rs.de

/-- `r[c]` in a state. -/
def State.reg (s : State) (r : Reg) : Byte := s.regs.get r

/-- `r[c] <- v` in a state. -/
def State.setReg (r : Reg) (v : Byte) (s : State) : State := { s with regs := s.regs.set r v }

/-- `rp[c]` of LXI, INX, DCX and DAD (R26). -/
def State.pair (s : State) (p : Pair) : Word :=
  match p with
  | .bc => s.regs.bc
  | .de => s.regs.de
  | .hl => s.regs.hl
  | .sp => s.sp

/-- `rp[c] <- w` of LXI, INX and DCX (R26). -/
def State.setPair (p : Pair) (w : Word) (s : State) : State :=
  match p with
  | .bc => { s with regs := s.regs.setBc w }
  | .de => { s with regs := s.regs.setDe w }
  | .hl => { s with regs := s.regs.setHl w }
  | .sp => { s with sp := w }

/-- `cond(ccc)` (R220). -/
def Flags.holds (f : Flags) (cc : Cond) : Bool :=
  match cc with
  | .nz => !f.z
  | .z => f.z
  | .nc => !f.cy
  | .c => f.cy
  | .po => !f.p
  | .pe => f.p
  | .p => !f.s
  | .m => f.s

end Sys2Proof.Machine
end

