-- ==== Sys2Proof/Machine/Ops.lean ====
section
/-! DEFINITION. The named operations: memory, the machine cycles with their order and record, the stack, input and output,
the clock, and interrupt entry and return. -/

namespace Sys2Proof.Machine

/-! ### Memory -/

/-- The byte at an address. -/
def Memory.get : Memory → Nat → Byte
  | [], _ => Memory.unlisted
  | (k, v) :: m, a => if a = k then v else Memory.get m a

/-- Put a byte in front of the entries of greater address, unless it is what an unlisted address reads as. -/
def Memory.put (a : Nat) (v : Byte) (m : Memory) : Memory := if v = Memory.unlisted then m else (a, v) :: m

/-- Write the byte at an address, keeping the canonical form. -/
def Memory.set : Memory → Nat → Byte → Memory
  | [], a, v => Memory.put a v []
  | (k, u) :: m, a, v =>
    if a < k then Memory.put a v ((k, u) :: m)
    else if a = k then Memory.put a v m
    else (k, u) :: Memory.set m a v

/-- Every address of a memory is at least `lo`, below 65536 (R60) and strictly rising, and no byte is what an unlisted address
reads as. -/
def Memory.wfFrom : Nat → Memory → Bool
  | _, [] => true
  | lo, (k, v) :: m => decide (lo ≤ k) && decide (k < 65536) && v != Memory.unlisted && Memory.wfFrom (k + 1) m

/-- The canonical form. -/
def Memory.wf (m : Memory) : Bool := Memory.wfFrom 0 m

/-- `mem_map` of an address (R74): the first region that holds it, ram where none does. -/
def classOf : List Region → Nat → MemClass
  | [], _ => .ram
  | r :: rs, a => if r.first ≤ a ∧ a ≤ r.last then r.cls else classOf rs a

/-- Whether an access of kind `k` goes to the separate memory of the stack (R82). -/
def State.apart (s : State) (k : Kind) : Bool := s.cfg.stackSeparate && k == .stack

/-- The byte stored at an address, in the memory an access of kind `k` reaches (R82). -/
def State.byteAt (s : State) (k : Kind) (a : Word) : Byte :=
  if s.apart k then s.stackMem.get a.toNat else s.mem.get a.toNat

/-- Whether a read of kind `k` at `a` answers with the stored byte: ram, rom, and all of the separate stack memory (R74, R82). -/
def State.stored (s : State) (k : Kind) (a : Word) : Bool :=
  s.apart k || classOf s.cfg.memMap a.toNat == .ram || classOf s.cfg.memMap a.toNat == .rom

/-- Whether a write of kind `k` at `a` changes the stored byte (R74, R82). -/
def State.writable (s : State) (k : Kind) (a : Word) : Bool :=
  s.apart k || classOf s.cfg.memMap a.toNat == .ram

/-- What a read answers: the stored byte, or a free value where there is none (R74, U4; log entry 9). -/
def State.peek (s : State) (k : Kind) (a : Word) : Byte :=
  if s.stored k a then s.byteAt k a else Config.freeByte s.draws

/-- Store a byte; a write to rom, to absent memory or to a device changes no stored byte (R74; log entry 9). -/
def State.store (k : Kind) (a : Word) (v : Byte) (s : State) : State :=
  if s.apart k then { s with stackMem := s.stackMem.set a.toNat v }
  else if s.writable k a then { s with mem := s.mem.set a.toNat v }
  else s

/-! ### Machine cycles -/

/-- The status byte of a machine cycle (R69). -/
def BusCycle.status : BusCycle → Byte
  | .opcode _ _ => 0xA2#8
  | .operand _ _ => 0x82#8
  | .read _ _ => 0x82#8
  | .write _ _ => 0x00#8
  | .stackRead _ _ => 0x86#8
  | .stackWrite _ _ => 0x04#8
  | .input _ _ => 0x42#8
  | .output _ _ => 0x10#8
  | .intAck _ _ fromHalt => if fromHalt then 0x2B#8 else 0x23#8
  | .haltAck => 0x8A#8

/-- The address bus in a machine cycle: the port number on both halves in input and output (R63), PC in an acknowledge
(R307); none in a halt acknowledge, where nothing is transferred and the spec gives no address. -/
def BusCycle.address : BusCycle → Option Word
  | .opcode a _ => some a
  | .operand a _ => some a
  | .read a _ => some a
  | .write a _ => some a
  | .stackRead a _ => some a
  | .stackWrite a _ => some a
  | .input port _ => some (joinBytes port port)
  | .output port _ => some (joinBytes port port)
  | .intAck a _ _ => some a
  | .haltAck => none

/-- The cycle that reads a byte. -/
def Kind.readCycle (k : Kind) (a : Word) (v : Byte) : BusCycle :=
  match k with
  | .opcode => .opcode a v
  | .operand => .operand a v
  | .data => .read a v
  | .stack => .stackRead a v

/-- The cycle that writes a byte; only data and stack bytes are written (R14). -/
def Kind.writeCycle (k : Kind) (a : Word) (v : Byte) : BusCycle :=
  match k with
  | .stack => .stackWrite a v
  | _ => .write a v

/-- Record a machine cycle (R68). -/
def State.record (c : BusCycle) (s : State) : State := { s with bus := s.bus ++ [c] }

/-- Another bus master's writes (R76 (c)), to the main memory. -/
def State.storeAll (ws : List (Word × Byte)) (s : State) : State :=
  ws.foldl (fun t w => t.store .data w.1 w.2) s

/-- The other bus master's turn, before a machine cycle of the processor (R76 (c), R86, R327). -/
def State.busTurn (s : State) : State :=
  match s.host.dma with
  | [] => s
  | ws :: rest => { s with host := { s.host with dma := rest } }.storeAll ws

/-- The byte that `MemRead(a, 1, k)` returns (R14). -/
def State.readVal (k : Kind) (a : Word) (s : State) : Byte := s.busTurn.peek k a

/-- The state after `MemRead(a, 1, k)` (R14): the cycle is recorded, and a free value, where one answered, is used up. -/
def State.afterRead (k : Kind) (a : Word) (s : State) : State :=
  let t := s.busTurn
  { t.record (k.readCycle a (t.peek k a)) with draws := if t.stored k a then t.draws else t.draws + 1 }

/-- `MemWrite(a, 1, v, k)` (R14). -/
def State.write (k : Kind) (a : Word) (v : Byte) (s : State) : State :=
  (s.busTurn.store k a v).record (k.writeCycle a v)

/-- The word that `MemRead(a, 2, k)` returns: low byte at `a`, then high byte at `a + 1` (R14, R66, R67). -/
def State.readVal16 (k : Kind) (a : Word) (s : State) : Word :=
  joinBytes ((s.afterRead k a).readVal k (a + 1#16)) (s.readVal k a)

/-- The state after `MemRead(a, 2, k)`. -/
def State.afterRead16 (k : Kind) (a : Word) (s : State) : State :=
  (s.afterRead k a).afterRead k (a + 1#16)

/-- The byte that `Fetch8()` returns (R101). -/
def State.fetchVal (k : Kind) (s : State) : Byte := s.readVal k s.pc

/-- The state after `Fetch8()`: PC is incremented modulo 2^16 (R28, R101). -/
def State.afterFetch (k : Kind) (s : State) : State := { s.afterRead k s.pc with pc := s.pc + 1#16 }

/-- Spend clock states (R358). -/
def State.tick (n : Nat) (s : State) : State := { s with clock := s.clock + n }

/-! ### Stack -/

/-- `Push16(w)` (R72): high byte to `SP - 1`, then low byte to `SP - 2`, then `SP <- SP - 2`. -/
def State.push16 (w : Word) (s : State) : State :=
  { (s.write .stack (s.sp - 1#16) (hi8 w)).write .stack (s.sp - 2#16) (lo8 w) with sp := s.sp - 2#16 }

/-- The word that `Pop16()` returns (R72). -/
def State.popVal (s : State) : Word := s.readVal16 .stack s.sp

/-- The state after `Pop16()` (R72). -/
def State.afterPop (s : State) : State := { s.afterRead16 .stack s.sp with sp := s.sp + 2#16 }

/-! ### Input and output -/

/-- The byte that `IoRead(port)` returns (R14, R64): the next scripted byte, or a free value once the script has run out. -/
def State.inputVal (s : State) : Byte :=
  match s.host.ioIn with
  | [] => Config.freeByte s.draws
  | v :: _ => v

/-- The state after `IoRead(port)`. -/
def State.afterInput (port : Byte) (s : State) : State :=
  let t := s.busTurn
  { t.record (.input port t.inputVal) with
    host := { t.host with ioIn := t.host.ioIn.tail }
    draws := if t.host.ioIn.isEmpty then t.draws + 1 else t.draws }

/-- `IoWrite(port, v)` (R14, R64): the output event is appended to `io_out`. -/
def State.output (port : Byte) (v : Byte) (s : State) : State :=
  { s.busTurn.record (.output port v) with ioOut := s.ioOut ++ [{ port := port, v := v }] }

/-! ### Results in the accumulator and the flags -/

/-- `A <- v; CY <- cy; AC <- ac; SetSZP(v)` (R162 to R173). -/
def State.accumulate (o : AluOut) (s : State) : State :=
  { s with regs := { s.regs with a := o.v }, flags := s.flags.ofAlu o }

/-- The flags of a comparison, A kept (R200 to R202). -/
def State.compare (o : AluOut) (s : State) : State := { s with flags := s.flags.ofAlu o }

/-- `A <- v; CY <- 0; AC <- ac; SetSZP(A)` (R191 to R199). -/
def State.logic (v : Byte) (ac : Bool) (s : State) : State :=
  { s with regs := { s.regs with a := v }, flags := s.flags.ofLogic v ac }

/-- ANA and ANI (R190, R191). -/
def State.logicAnd (v : Byte) (s : State) : State := s.logic (s.regs.a &&& v) (andAc s.cfg.andAc s.regs.a v)

/-- A and CY of a rotate; the other flags are kept (R203 to R206). -/
def State.rotated (v : Byte) (cy : Bool) (s : State) : State :=
  { s with regs := { s.regs with a := v }, flags := { s.flags with cy := cy } }

/-! ### Control transfers -/

/-- `PC <- a`. -/
def State.goto (a : Word) (s : State) : State := { s with pc := a }

/-- `Push16(PC); PC <- a` (R230, R248), which is also what a supplied RST or CALL does (R309, R310). -/
def State.callTo (a : Word) (s : State) : State := (s.push16 s.pc).goto a

/-- `PC <- Pop16()` (R239): the return from a subroutine and from an interrupt handler (R313). -/
def State.returnFrom (s : State) : State := s.afterPop.goto s.popVal

/-- A conditional jump (R222 to R229): the same states taken or not. -/
def State.jumpIf (cc : Cond) (a : Word) (s : State) : State :=
  (if s.flags.holds cc then s.goto a else s).tick 10

/-- A conditional call (R231 to R238). -/
def State.callIf (cc : Cond) (a : Word) (s : State) : State :=
  if s.flags.holds cc then (s.callTo a).tick 17 else s.tick 11

/-- A conditional return (R240 to R247). -/
def State.returnIf (cc : Cond) (s : State) : State :=
  if s.flags.holds cc then s.returnFrom.tick 11 else s.tick 5

/-- The target of `RST n` (R105 (d), R248): `8 * n`. -/
def restartTarget (n : BitVec 3) : Word := BitVec.ofNat 16 (8 * n.toNat)

/-! ### Taking an interrupt -/

/-- Actions (1) and (2) of acceptance (R307): `INTE <- 0; halted <- 0`. -/
def State.beginInterrupt (s : State) : State := { s with inte := false, halted := false }

/-- One interrupt-acknowledge cycle (R307 (3), R308): PC on the address bus and not incremented, the byte `v` from the device. -/
def State.acknowledge (fromHalt : Bool) (v : Byte) (s : State) : State :=
  s.busTurn.record (.intAck s.pc v fromHalt)

/-- Interrupt entry by a supplied RST (R309): acceptance, one acknowledge cycle, the call; 11 states. -/
def State.enterByRestart (op : Byte) (s : State) : State :=
  ((s.beginInterrupt.acknowledge s.halted op).callTo ((op &&& 0x38#8).setWidth 16)).tick 11

/-- Interrupt entry by a supplied CALL (R310): acceptance, three acknowledge cycles, the call; 17 states. -/
def State.enterByCall (op low high : Byte) (s : State) : State :=
  ((((s.beginInterrupt.acknowledge s.halted op).acknowledge false low).acknowledge false high).callTo
    (joinBytes high low)).tick 17

end Sys2Proof.Machine
end

