-- ==== Sys2Proof/Machine/Arithmetic.lean ====
section
/-! DEFINITION. The arithmetic group (R160 to R187), over the adder of R160 and R161. -/

namespace Sys2Proof.Machine

/-- `ADD r` (R162). -/
def execAddR (src : Reg) (s : State) : Result := .next ((s.accumulate (add8 s.regs.a (s.reg src) false)).tick 4)

/-- `ADD M` (R163). -/
def execAddM (s : State) : Result :=
  .next (((s.afterRead .data s.regs.hl).accumulate (add8 s.regs.a (s.readVal .data s.regs.hl) false)).tick 7)

/-- `ADI d8` (R164). -/
def execAdi (d8 : Byte) (s : State) : Result := .next ((s.accumulate (add8 s.regs.a d8 false)).tick 7)

/-- `ADC r` (R165). -/
def execAdcR (src : Reg) (s : State) : Result :=
  .next ((s.accumulate (add8 s.regs.a (s.reg src) s.flags.cy)).tick 4)

/-- `ADC M` (R166). -/
def execAdcM (s : State) : Result :=
  .next (((s.afterRead .data s.regs.hl).accumulate
    (add8 s.regs.a (s.readVal .data s.regs.hl) s.flags.cy)).tick 7)

/-- `ACI d8` (R167). -/
def execAci (d8 : Byte) (s : State) : Result := .next ((s.accumulate (add8 s.regs.a d8 s.flags.cy)).tick 7)

/-- `SUB r` (R168). -/
def execSubR (src : Reg) (s : State) : Result := .next ((s.accumulate (sub8 s.regs.a (s.reg src) false)).tick 4)

/-- `SUB M` (R169). -/
def execSubM (s : State) : Result :=
  .next (((s.afterRead .data s.regs.hl).accumulate (sub8 s.regs.a (s.readVal .data s.regs.hl) false)).tick 7)

/-- `SUI d8` (R170). -/
def execSui (d8 : Byte) (s : State) : Result := .next ((s.accumulate (sub8 s.regs.a d8 false)).tick 7)

/-- `SBB r` (R171). -/
def execSbbR (src : Reg) (s : State) : Result :=
  .next ((s.accumulate (sub8 s.regs.a (s.reg src) s.flags.cy)).tick 4)

/-- `SBB M` (R172). -/
def execSbbM (s : State) : Result :=
  .next (((s.afterRead .data s.regs.hl).accumulate
    (sub8 s.regs.a (s.readVal .data s.regs.hl) s.flags.cy)).tick 7)

/-- `SBI d8` (R173). -/
def execSbi (d8 : Byte) (s : State) : Result := .next ((s.accumulate (sub8 s.regs.a d8 s.flags.cy)).tick 7)

/-- `INR r` (R174): CY is kept. -/
def execInrR (dst : Reg) (s : State) : Result :=
  let o := add8 (s.reg dst) 1#8 false
  .next ({ s.setReg dst o.v with flags := s.flags.ofCount o }.tick 5)

/-- `INR M` (R175): the write always happens. -/
def execInrM (s : State) : Result :=
  let o := add8 (s.readVal .data s.regs.hl) 1#8 false
  .next ({ (s.afterRead .data s.regs.hl).write .data s.regs.hl o.v with flags := s.flags.ofCount o }.tick 10)

/-- `DCR r` (R176): CY is kept. -/
def execDcrR (dst : Reg) (s : State) : Result :=
  let o := sub8 (s.reg dst) 1#8 false
  .next ({ s.setReg dst o.v with flags := s.flags.ofCount o }.tick 5)

/-- `DCR M` (R177): the write always happens. -/
def execDcrM (s : State) : Result :=
  let o := sub8 (s.readVal .data s.regs.hl) 1#8 false
  .next ({ (s.afterRead .data s.regs.hl).write .data s.regs.hl o.v with flags := s.flags.ofCount o }.tick 10)

/-- `INX rp` (R178): no flag. -/
def execInx (rp : Pair) (s : State) : Result := .next ((s.setPair rp (s.pair rp + 1#16)).tick 5)

/-- `DCX rp` (R179): no flag. -/
def execDcx (rp : Pair) (s : State) : Result := .next ((s.setPair rp (s.pair rp - 1#16)).tick 5)

/-- `DAD rp` (R184): CY only. -/
def execDad (rp : Pair) (s : State) : Result :=
  .next ({ s.setPair .hl (s.regs.hl + s.pair rp) with
    flags := { s.flags with cy := carry16 s.regs.hl (s.pair rp) } }.tick 10)

/-- `DAA` (R185): AC from the adjusting addition; CY set with the high adjustment and otherwise kept. -/
def execDaa (s : State) : Result :=
  let o := add8 s.regs.a (daaAdjust s.regs.a s.flags) false
  .next ((s.accumulate { o with cy := s.flags.cy || daaHigh s.regs.a s.flags }).tick 4)

end Sys2Proof.Machine
end

