-- ==== Sys2Proof/Machine/Branch.lean ====
section
/-! DEFINITION. The branch group (R220 to R250). PC already holds the address of the next sequential instruction, which is what
calls push. -/

namespace Sys2Proof.Machine

/-- `JMP a16` (R221). -/
def execJmp (a16 : Word) (s : State) : Result := .next ((s.goto a16).tick 10)

/-- `JNZ a16` (R222). -/
def execJnz (a16 : Word) (s : State) : Result := .next (s.jumpIf .nz a16)

/-- `JZ a16` (R223). -/
def execJz (a16 : Word) (s : State) : Result := .next (s.jumpIf .z a16)

/-- `JNC a16` (R224). -/
def execJnc (a16 : Word) (s : State) : Result := .next (s.jumpIf .nc a16)

/-- `JC a16` (R225). -/
def execJc (a16 : Word) (s : State) : Result := .next (s.jumpIf .c a16)

/-- `JPO a16` (R226). -/
def execJpo (a16 : Word) (s : State) : Result := .next (s.jumpIf .po a16)

/-- `JPE a16` (R227). -/
def execJpe (a16 : Word) (s : State) : Result := .next (s.jumpIf .pe a16)

/-- `JP a16` (R228). -/
def execJp (a16 : Word) (s : State) : Result := .next (s.jumpIf .p a16)

/-- `JM a16` (R229). -/
def execJm (a16 : Word) (s : State) : Result := .next (s.jumpIf .m a16)

/-- `CALL a16` (R230). -/
def execCall (a16 : Word) (s : State) : Result := .next ((s.callTo a16).tick 17)

/-- `CNZ a16` (R231). -/
def execCnz (a16 : Word) (s : State) : Result := .next (s.callIf .nz a16)

/-- `CZ a16` (R232). -/
def execCz (a16 : Word) (s : State) : Result := .next (s.callIf .z a16)

/-- `CNC a16` (R233). -/
def execCnc (a16 : Word) (s : State) : Result := .next (s.callIf .nc a16)

/-- `CC a16` (R234). -/
def execCc (a16 : Word) (s : State) : Result := .next (s.callIf .c a16)

/-- `CPO a16` (R235). -/
def execCpo (a16 : Word) (s : State) : Result := .next (s.callIf .po a16)

/-- `CPE a16` (R236). -/
def execCpe (a16 : Word) (s : State) : Result := .next (s.callIf .pe a16)

/-- `CP a16` (R237). -/
def execCp (a16 : Word) (s : State) : Result := .next (s.callIf .p a16)

/-- `CM a16` (R238). -/
def execCm (a16 : Word) (s : State) : Result := .next (s.callIf .m a16)

/-- `RET` (R239). -/
def execRet (s : State) : Result := .next (s.returnFrom.tick 10)

/-- `RNZ` (R240). -/
def execRnz (s : State) : Result := .next (s.returnIf .nz)

/-- `RZ` (R241). -/
def execRz (s : State) : Result := .next (s.returnIf .z)

/-- `RNC` (R242). -/
def execRnc (s : State) : Result := .next (s.returnIf .nc)

/-- `RC` (R243). -/
def execRc (s : State) : Result := .next (s.returnIf .c)

/-- `RPO` (R244). -/
def execRpo (s : State) : Result := .next (s.returnIf .po)

/-- `RPE` (R245). -/
def execRpe (s : State) : Result := .next (s.returnIf .pe)

/-- `RP` (R246). -/
def execRp (s : State) : Result := .next (s.returnIf .p)

/-- `RM` (R247). -/
def execRm (s : State) : Result := .next (s.returnIf .m)

/-- `RST n` (R248). -/
def execRst (n : BitVec 3) (s : State) : Result := .next ((s.callTo (restartTarget n)).tick 11)

/-- `PCHL` (R249). -/
def execPchl (s : State) : Result := .next ((s.goto s.regs.hl).tick 5)

end Sys2Proof.Machine
end

