-- ==== Sys2Proof/Machine/DataTransfer.lean ====
section
/-! DEFINITION. The data transfer group (R140 to R153). PC already holds the address of the next instruction (R140); no flag is
written. The number given to `tick` is the duration of R358. -/

namespace Sys2Proof.Machine

/-- `MOV r1,r2` (R141). -/
def execMovRR (dst src : Reg) (s : State) : Result := .next ((s.setReg dst (s.reg src)).tick 5)

/-- `MOV r,M` (R142): the address is HL before the instruction. -/
def execMovRM (dst : Reg) (s : State) : Result :=
  .next (((s.afterRead .data s.regs.hl).setReg dst (s.readVal .data s.regs.hl)).tick 7)

/-- `MOV M,r` (R143). -/
def execMovMR (src : Reg) (s : State) : Result := .next ((s.write .data s.regs.hl (s.reg src)).tick 7)

/-- `MVI r,d8` (R144). -/
def execMviR (dst : Reg) (d8 : Byte) (s : State) : Result := .next ((s.setReg dst d8).tick 7)

/-- `MVI M,d8` (R145). -/
def execMviM (d8 : Byte) (s : State) : Result := .next ((s.write .data s.regs.hl d8).tick 10)

/-- `LXI rp,d16` (R146). -/
def execLxi (rp : Pair) (d16 : Word) (s : State) : Result := .next ((s.setPair rp d16).tick 10)

/-- `LDA a16` (R147). -/
def execLda (a16 : Word) (s : State) : Result :=
  .next (((s.afterRead .data a16).setReg .a (s.readVal .data a16)).tick 13)

/-- `STA a16` (R148). -/
def execSta (a16 : Word) (s : State) : Result := .next ((s.write .data a16 s.regs.a).tick 13)

/-- `LHLD a16` (R149): L from `a16`, then H from `a16 + 1`. -/
def execLhld (a16 : Word) (s : State) : Result :=
  .next (((s.afterRead16 .data a16).setPair .hl (s.readVal16 .data a16)).tick 16)

/-- `SHLD a16` (R150): L to `a16`, then H to `a16 + 1`. -/
def execShld (a16 : Word) (s : State) : Result :=
  .next (((s.write .data a16 s.regs.l).write .data (a16 + 1#16) s.regs.h).tick 16)

/-- `LDAX rp` (R151). -/
def execLdax (rp : IndexPair) (s : State) : Result :=
  .next (((s.afterRead .data (s.regs.indexPair rp)).setReg .a (s.readVal .data (s.regs.indexPair rp))).tick 7)

/-- `STAX rp` (R152). -/
def execStax (rp : IndexPair) (s : State) : Result :=
  .next ((s.write .data (s.regs.indexPair rp) s.regs.a).tick 7)

/-- `XCHG` (R153). -/
def execXchg (s : State) : Result := .next (((s.setPair .hl s.regs.de).setPair .de s.regs.hl).tick 4)

end Sys2Proof.Machine
end

