-- ==== Sys2Proof/Machine/Logic.lean ====
section
/-! DEFINITION. The logical, compare, rotate and carry group (R190 to R209). -/

namespace Sys2Proof.Machine

/-- `ANA r` (R191). -/
def execAnaR (src : Reg) (s : State) : Result := .next ((s.logicAnd (s.reg src)).tick 4)

/-- `ANA M` (R192). -/
def execAnaM (s : State) : Result :=
  .next (((s.afterRead .data s.regs.hl).logicAnd (s.readVal .data s.regs.hl)).tick 7)

/-- `ANI d8` (R193). -/
def execAni (d8 : Byte) (s : State) : Result := .next ((s.logicAnd d8).tick 7)

/-- `XRA r` (R194). -/
def execXraR (src : Reg) (s : State) : Result := .next ((s.logic (s.regs.a ^^^ s.reg src) false).tick 4)

/-- `XRA M` (R195). -/
def execXraM (s : State) : Result :=
  .next (((s.afterRead .data s.regs.hl).logic (s.regs.a ^^^ s.readVal .data s.regs.hl) false).tick 7)

/-- `XRI d8` (R196). -/
def execXri (d8 : Byte) (s : State) : Result := .next ((s.logic (s.regs.a ^^^ d8) false).tick 7)

/-- `ORA r` (R197). -/
def execOraR (src : Reg) (s : State) : Result := .next ((s.logic (s.regs.a ||| s.reg src) false).tick 4)

/-- `ORA M` (R198). -/
def execOraM (s : State) : Result :=
  .next (((s.afterRead .data s.regs.hl).logic (s.regs.a ||| s.readVal .data s.regs.hl) false).tick 7)

/-- `ORI d8` (R199). -/
def execOri (d8 : Byte) (s : State) : Result := .next ((s.logic (s.regs.a ||| d8) false).tick 7)

/-- `CMP r` (R200): A is not written. -/
def execCmpR (src : Reg) (s : State) : Result := .next ((s.compare (sub8 s.regs.a (s.reg src) false)).tick 4)

/-- `CMP M` (R201). -/
def execCmpM (s : State) : Result :=
  .next (((s.afterRead .data s.regs.hl).compare (sub8 s.regs.a (s.readVal .data s.regs.hl) false)).tick 7)

/-- `CPI d8` (R202). -/
def execCpi (d8 : Byte) (s : State) : Result := .next ((s.compare (sub8 s.regs.a d8 false)).tick 7)

/-- `RLC` (R203): `{A[6:0], A[7]}`, CY the old bit 7. -/
def execRlc (s : State) : Result := .next ((s.rotated (s.regs.a <<< 1 ||| s.regs.a >>> 7) (s.regs.a.getLsbD 7)).tick 4)

/-- `RRC` (R204): `{A[0], A[7:1]}`, CY the old bit 0. -/
def execRrc (s : State) : Result := .next ((s.rotated (s.regs.a >>> 1 ||| s.regs.a <<< 7) (s.regs.a.getLsbD 0)).tick 4)

/-- `RAL` (R205): `{A[6:0], CY}`, CY the old bit 7. -/
def execRal (s : State) : Result :=
  .next ((s.rotated (s.regs.a <<< 1 ||| BitVec.ofNat 8 s.flags.cy.toNat) (s.regs.a.getLsbD 7)).tick 4)

/-- `RAR` (R206): `{CY, A[7:1]}`, CY the old bit 0. -/
def execRar (s : State) : Result :=
  .next ((s.rotated (s.regs.a >>> 1 ||| BitVec.ofNat 8 (128 * s.flags.cy.toNat)) (s.regs.a.getLsbD 0)).tick 4)

/-- `CMA` (R207): no flag. -/
def execCma (s : State) : Result := .next ((s.setReg .a (~~~s.regs.a)).tick 4)

/-- `CMC` (R208). -/
def execCmc (s : State) : Result := .next ((s.rotated s.regs.a (!s.flags.cy)).tick 4)

/-- `STC` (R209). -/
def execStc (s : State) : Result := .next ((s.rotated s.regs.a true).tick 4)

end Sys2Proof.Machine
end

