-- ==== Sys2Proof/Machine/StackIo.lean ====
section
/-! DEFINITION. The stack, input-output and machine control group (R260 to R277). -/

namespace Sys2Proof.Machine

/-- `PUSH rp` (R260). -/
def execPushRp (rp : StackPair) (s : State) : Result := .next ((s.push16 (s.regs.stackPair rp)).tick 11)

/-- `PUSH PSW` (R261): A above, the flag byte of R32 below. -/
def execPushPsw (s : State) : Result := .next ((s.push16 (joinBytes s.regs.a s.flags.byte)).tick 11)

/-- `POP rp` (R262). -/
def execPopRp (rp : StackPair) (s : State) : Result :=
  .next ({ s.afterPop with regs := s.regs.setStackPair rp s.popVal }.tick 10)

/-- `POP PSW` (R263): the flags from the lower byte, A from the upper. -/
def execPopPsw (s : State) : Result :=
  .next ({ s.afterPop with
    regs := { s.regs with a := hi8 s.popVal }, flags := Flags.ofByte (lo8 s.popVal) }.tick 10)

/-- `XTHL` (R264): two reads, then H to `SP + 1`, then L to `SP`; SP unchanged. -/
def execXthl (s : State) : Result :=
  .next ({ ((s.afterRead16 .stack s.sp).write .stack (s.sp + 1#16) s.regs.h).write .stack s.sp s.regs.l with
    regs := s.regs.setHl (s.readVal16 .stack s.sp) }.tick 18)

/-- `SPHL` (R265). -/
def execSphl (s : State) : Result := .next ((s.setPair .sp s.regs.hl).tick 5)

/-- `IN port` (R266). -/
def execInPort (port : Byte) (s : State) : Result :=
  .next (((s.afterInput port).setReg .a s.inputVal).tick 10)

/-- `OUT port` (R267). -/
def execOutPort (port : Byte) (s : State) : Result := .next ((s.output port s.regs.a).tick 10)

/-- `EI` (R273): INTE at once, the acceptance one instruction later (R37). -/
def execEi (s : State) : Result := .next ({ s with inte := true, intInhibit := true }.tick 4)

/-- `DI` (R274). -/
def execDi (s : State) : Result := .next ({ s with inte := false }.tick 4)

/-- `HLT` (R275): a halt-acknowledge cycle with no transfer (R81), then the halt state. -/
def execHlt (s : State) : Result := .next ({ s.busTurn.record .haltAck with halted := true }.tick 7)

/-- `NOP` (R276). -/
def execNop (s : State) : Result := .next (s.tick 4)

end Sys2Proof.Machine
end

