-- ==== Sys2Proof/Machine/Undocumented.lean ====
section
/-! DEFINITION. The twelve undocumented opcodes (R280 to R284): under `asDocumented` the documented instruction's effect, under
`refuse` a refusal by name. -/

namespace Sys2Proof.Machine

/-- `undoc_policy` (R280): `t` is the state after the documented instruction. -/
def State.underPolicy (s t : State) : Result :=
  match s.cfg.undoc with
  | .refuse => .refused .undocumentedOpcode
  | .asDocumented => .next t

/-- `*NOP` (R281): all seven opcodes act as NOP (R276). -/
def execUndocNop (_ : BitVec 3) (s : State) : Result := s.underPolicy (s.tick 4)

/-- `*JMP a16` (R282): as JMP (R221). -/
def execUndocJmp (a16 : Word) (s : State) : Result := s.underPolicy ((s.goto a16).tick 10)

/-- `*RET` (R283): as RET (R239). -/
def execUndocRet (s : State) : Result := s.underPolicy (s.returnFrom.tick 10)

/-- `*CALL a16` (R284): all three opcodes act as CALL (R230). -/
def execUndocCall (_ : BitVec 2) (a16 : Word) (s : State) : Result := s.underPolicy ((s.callTo a16).tick 17)

end Sys2Proof.Machine
end

