-- ==== Sys2Proof/Machine/Boundary.lean ====
section
/-! DEFINITION. What happens at an instruction boundary (R320): fetch and execution (R102), interrupt acceptance (R306 to R311),
the halt state (R325), and RESET (R340 to R342). -/

namespace Sys2Proof.Machine

/-- Fetch the bytes of one instruction through PC and execute it (R101, R102): all its bytes before any other access. -/
def State.fetchExec (s : State) : Result :=
  let op := s.fetchVal .opcode
  let s1 := s.afterFetch .opcode
  match opLength op with
  | 1 => exec (decodeFields op 0#8 0#8) s1
  | 2 => exec (decodeFields op (s1.fetchVal .operand) 0#8) (s1.afterFetch .operand)
  | _ =>
    let s2 := s1.afterFetch .operand
    exec (decodeFields op (s1.fetchVal .operand) (s2.fetchVal .operand)) (s2.afterFetch .operand)

/-- The next instruction, or in the halt state no instruction (R320, R325); HOLD is honoured in it (R327). -/
def State.proceed (s : State) : Result := if s.halted then .next s.busTurn else s.fetchExec

/-- `b1 & 0xC7 = 0xC7` (R309): the opcode of an RST. -/
def isRestart (op : Byte) : Bool := op &&& 0xC7#8 == 0xC7#8

/-- `AcceptInterrupt()` (R320). An opcode outside the policy is refused (R311). One that the policy adds to RST and CALL
executes as if fetched, PC not incremented, if it is one byte long (R308); the later bytes of others are not settled (R311). -/
def State.acceptInterrupt (ev : HostEvent) (s : State) : Result :=
  if s.cfg.intPolicy.contains ev.ack1 then
    if isRestart ev.ack1 then .next (s.enterByRestart ev.ack1)
    else if ev.ack1 = 0xCD#8 then .next (s.enterByCall ev.ack1 ev.ack2 ev.ack3)
    else if opLength ev.ack1 = 1 then
      exec (decodeFields ev.ack1 0#8 0#8) (s.beginInterrupt.acknowledge s.halted ev.ack1)
    else .refused (.suppliedBytesUnsettled ev.ack1)
  else .refused (.suppliedNotAdmitted ev.ack1)

/-- The boundary without RESET, in the order of R315: a host that never lets the bus go stops the machine (U8); the boundary
after EI accepts nothing and clears int_inhibit (R37); then an interrupt (R306); then the next instruction. -/
def State.boundary (ev : HostEvent) (s : State) : Result :=
  match ev.stall with
  | none => .fault .busHeld
  | some _ =>
    if s.intInhibit then { s with intInhibit := false }.proceed
    else if s.inte && ev.int then s.acceptInterrupt ev
    else s.proceed

/-- What a completed machine cycle leaves done outside the processor when RESET abandons its instruction (R342): the other bus
master's turn before it, and its own write, output or taken input. -/
def State.keepCycle (s : State) (c : BusCycle) : State :=
  let t := s.busTurn
  match c with
  | .write a v => t.store .data a v
  | .stackWrite a v => t.store .stack a v
  | .output port v => { t with ioOut := t.ioOut ++ [{ port := port, v := v }] }
  | .input _ _ => { t with host := { t.host with ioIn := t.host.ioIn.tail } }
  | .opcode _ _ | .operand _ _ | .read _ _ | .stackRead _ _ | .intAck _ _ _ | .haltAck => t

/-- What is left when RESET comes after `n` machine cycles of the step (R342): at the boundary the state as it is; inside an
instruction or an interrupt entry the state with its first `n` cycles done outside the processor, be it out of a WAIT or HOLD
that would not have ended, and with the free values it took used up. An opcode the model refuses is refused once it has been
fetched (R280, R311). -/
def State.abandon (n : Nat) (ev : HostEvent) (s : State) : Result :=
  if n = 0 then .next s
  else
    match s.boundary { ev with stall := some 0 } with
    | .next t => .next { (t.bus.take n).foldl State.keepCycle s with bus := t.bus.take n, draws := t.draws }
    | .fault f => .fault f
    | .refused why => .refused why

/-- `Reset()` (R340), with free values for all that RESET leaves unspecified (R42, R342). -/
def State.resetEvent (s : State) : State :=
  let n := s.draws
  { s with
    pc := 0#16
    inte := false
    intInhibit := false
    halted := false
    regs := { b := Config.freeByte n, c := Config.freeByte (n + 1), d := Config.freeByte (n + 2), e := Config.freeByte (n + 3),
              h := Config.freeByte (n + 4), l := Config.freeByte (n + 5), a := Config.freeByte (n + 6) }
    flags := { s := Config.freeBit n, z := Config.freeBit (n + 1), ac := Config.freeBit (n + 2), p := Config.freeBit (n + 3),
               cy := Config.freeBit (n + 4) }
    sp := Config.freeWord n
    draws := n + 7 }

/-- The host's event at this boundary; a script that has run out is a quiet host. -/
def State.event (s : State) : HostEvent :=
  match s.host.events with
  | [] => .quiet
  | ev :: _ => ev

/-- A step begins: its event is taken off the script, the record of bus cycles starts anew, and the host's WAIT and HOLD
periods pass (R326, R327, R359). -/
def State.openStep (s : State) : State :=
  { s with
    host := { s.host with events := s.host.events.tail }
    bus := []
    clock := s.clock + s.event.stall.getD 0 }

/-- `Step()` (R320). RESET comes before all else (R315); a pulse under three periods is refused (R341, U7). -/
def State.runStep (s : State) : Result :=
  let ev := s.event
  if ev.resetPeriods = 0 then s.openStep.boundary ev
  else if ev.resetPeriods < 3 then .refused .shortReset
  else
    match s.openStep.abandon ev.abandonAfter ev with
    | .next t => .next t.resetEvent
    | .fault f => .fault f
    | .refused why => .refused why

/-- Put one byte where a fetch at address `a` will read it. -/
def State.placeByte (a : Word) (v : Byte) (s : State) : State :=
  let stored := classOf s.cfg.memMap a.toNat == .ram || classOf s.cfg.memMap a.toNat == .rom
  { s with
    mem := s.mem.set a.toNat v
    cfg := if stored then s.cfg else
      { s.cfg with memMap := { first := a.toNat, last := a.toNat, cls := .ram } :: s.cfg.memMap } }

/-- Put bytes at rising addresses, modulo 2^16 (R29). -/
def State.placeBytes : Word → List Byte → State → State
  | _, [], s => s
  | a, v :: vs, s => State.placeBytes (a + 1#16) vs (s.placeByte a v)

/-- Let the opcode run: where it is one of the twelve of R109, under the policy `alias` of R280. -/
def State.admitOpcode (op : Byte) (s : State) : State :=
  if undocumentedOpcodes.contains op then { s with cfg := { s.cfg with undoc := .asDocumented } } else s

/-- Let the next step fetch: one quiet event, quiet bus turns for the fetches, and no halt state. -/
def State.letFetch (n : Nat) (s : State) : State :=
  { s with
    halted := false
    host := { s.host with
      events := HostEvent.quiet :: s.host.events
      dma := List.replicate n [] ++ s.host.dma } }

end Sys2Proof.Machine
end

