-- ==== Sys2Proof/Machine/Step.lean ====
section
/-! DEFINITION. One step of the machine, and the placing of an instruction where it fetches. -/

namespace Sys2Proof.Machine

/-- One step, from an instruction boundary to the next (R320). -/
def step (s : State) : Host.Outcome State Fault Refusal := s.runStep

/-- `s` with the instruction of `nbits` bits that `w` holds (as spec/opcode_table.json numbers its bits) stored at PC, and
everything set that the very next step needs to fetch and run it (log entry 19). -/
def State.withFetchWord (s : State) (nbits w : Nat) : State :=
  let op := BitVec.ofNat 8 (w % 2 ^ nbits)
  ((s.placeBytes s.pc (tableBytes nbits w)).admitOpcode op).letFetch (opLength op)

end Sys2Proof.Machine
end

