-- ==== Sys2Proof/Safety.lean ====
section
/-! DEFINITION. The terms the statements use: what a safe run is, and, instruction by instruction from the tables of R27, R33 and
R81, what an instruction may write and which machine cycles it performs. -/

namespace Sys2Proof.Machine

/-! ### Runs -/

/-- The memories are in their canonical form. -/
def State.inv (s : State) : Bool := s.mem.wf && s.stackMem.wf

/-- No other bus master takes part (the default of `dma_agent`, R9). -/
abbrev State.soleMaster (s : State) : Prop := s.host.dma = []

/-- The end of a run (a) of R337: the processor is halted with interrupts disabled. -/
abbrev State.runEnded (s : State) : Prop := s.halted = true ∧ s.inte = false

/-- The boundary examines no RESET, and the host lets the bus go. -/
abbrev State.calm (s : State) : Prop := s.event.resetPeriods = 0 ∧ s.event.stall.isSome = true

/-- No interrupt is accepted at the coming boundary (R306). -/
abbrev State.unasked (s : State) : Prop := s.intInhibit = true ∨ s.inte = false ∨ s.event.int = false

/-- The step answers a state: it neither stops with a fault nor refuses. -/
abbrev State.goesOn (s : State) : Prop := ∃ t, step s = .next t

/-- `t` comes from `s` by steps that each answer a state. -/
inductive Reaches : State → State → Prop where
  | here (s : State) : Reaches s s
  | step (s t u : State) (first : Machine.step s = .next t) (rest : Reaches t u) : Reaches s u

/-- A safe run: every state it comes to goes on. -/
def State.safe (s : State) : Prop := ∀ t, Reaches s t → t.goesOn

/-- The bytes stored at `n` addresses from `a` on, modulo 2^16. -/
def State.bytesFrom (s : State) : Word → Nat → List Byte
  | _, 0 => []
  | a, n + 1 => s.byteAt .opcode a :: s.bytesFrom (a + 1#16) n

/-- The cycles that fetch the second and third bytes, `n` in all, from `a` on. -/
def State.operandCycles (s : State) : Word → Nat → List BusCycle
  | _, 0 => []
  | a, n + 1 => .operand a (s.byteAt .operand a) :: s.operandCycles (a + 1#16) n

/-- The cycles that fetch an instruction of `n` bytes at PC (R81, R101). -/
def State.fetchCycles (s : State) (n : Nat) : List BusCycle :=
  .opcode s.pc (s.byteAt .opcode s.pc) :: s.operandCycles (s.pc + 1#16) (n - 1)

/-! ### Results -/

/-- The flags of an 8-bit result `v` (R31): S its bit 7, Z whether it is 0, P its parity; CY and AC as given. -/
def flagsFor (v : Byte) (cy ac : Bool) : Flags :=
  { s := v.getLsbD 7, z := decide (v = 0#8), ac := ac, p := parity8 v, cy := cy }

/-- A value of two decimal digits in packed form, and the number it stands for. -/
abbrev packed (v : Byte) : Prop := v.toNat % 16 ≤ 9 ∧ v.toNat / 16 ≤ 9

/-- The number that two packed decimal digits stand for. -/
def unpacked (v : Byte) : Nat := 10 * (v.toNat / 16) + v.toNat % 16

/-! ### The conditional instructions of a condition code -/

/-- The conditional jump of a condition (R222 to R229). -/
def jumpOn (cc : Cond) (a : Word) : Instr :=
  match cc with
  | .nz => .jnz a | .z => .jz a | .nc => .jnc a | .c => .jc a | .po => .jpo a | .pe => .jpe a | .p => .jp a | .m => .jm a

/-- The conditional call of a condition (R231 to R238). -/
def callOn (cc : Cond) (a : Word) : Instr :=
  match cc with
  | .nz => .cnz a | .z => .cz a | .nc => .cnc a | .c => .cc a | .po => .cpo a | .pe => .cpe a | .p => .cp a | .m => .cm a

/-- The conditional return of a condition (R240 to R247). -/
def returnOn (cc : Cond) : Instr :=
  match cc with
  | .nz => .rnz | .z => .rz | .nc => .rnc | .c => .rc | .po => .rpo | .pe => .rpe | .p => .rp | .m => .rm

/-- The condition of a conditional instruction, `none` for the others (R220). -/
def condOf : Instr → Option Cond
  | .jnz _ | .cnz _ | .rnz => some .nz
  | .jz _ | .cz _ | .rz => some .z
  | .jnc _ | .cnc _ | .rnc => some .nc
  | .jc _ | .cc _ | .rc => some .c
  | .jpo _ | .cpo _ | .rpo => some .po
  | .jpe _ | .cpe _ | .rpe => some .pe
  | .jp _ | .cp _ | .rp => some .p
  | .jm _ | .cm _ | .rm => some .m
  | .movRR _ _ | .movRM _ | .movMR _ | .mviR _ _ | .mviM _ | .lxi _ _ | .lda _ | .sta _ | .lhld _ | .shld _ | .ldax _
  | .stax _ | .xchg | .addR _ | .addM | .adi _ | .adcR _ | .adcM | .aci _ | .subR _ | .subM | .sui _ | .sbbR _ | .sbbM
  | .sbi _ | .inrR _ | .inrM | .dcrR _ | .dcrM | .inx _ | .dcx _ | .dad _ | .daa | .anaR _ | .anaM | .ani _ | .xraR _
  | .xraM | .xri _ | .oraR _ | .oraM | .ori _ | .cmpR _ | .cmpM | .cpi _ | .rlc | .rrc | .ral | .rar | .cma | .cmc
  | .stc | .jmp _ | .call _ | .ret | .rst _ | .pchl | .pushRp _ | .pushPsw | .popRp _ | .popPsw | .xthl | .sphl
  | .inPort _ | .outPort _ | .ei | .di | .hlt | .nop | .undocNop _ | .undocJmp _ | .undocRet | .undocCall _ _ => none

/-- Whether an instruction acts: an unconditional one does, a conditional one where its condition holds. -/
def acts (i : Instr) (s : State) : Bool :=
  match condOf i with
  | none => true
  | some cc => s.flags.holds cc

/-! ### What an instruction may write -/

/-- Which of the five flags an instruction writes: the table of R33. -/
def flagsWritten : Instr → Flags
  | .addR _ | .addM | .adi _ | .adcR _ | .adcM | .aci _ | .subR _ | .subM | .sui _ | .sbbR _ | .sbbM | .sbi _ | .cmpR _
  | .cmpM | .cpi _ | .anaR _ | .anaM | .ani _ | .xraR _ | .xraM | .xri _ | .oraR _ | .oraM | .ori _ | .daa | .popPsw =>
    { s := true, z := true, ac := true, p := true, cy := true }
  | .inrR _ | .inrM | .dcrR _ | .dcrM => { s := true, z := true, ac := true, p := true, cy := false }
  | .dad _ | .rlc | .rrc | .ral | .rar | .stc | .cmc => { s := false, z := false, ac := false, p := false, cy := true }
  | .movRR _ _ | .movRM _ | .movMR _ | .mviR _ _ | .mviM _ | .lxi _ _ | .lda _ | .sta _ | .lhld _ | .shld _ | .ldax _
  | .stax _ | .xchg | .inx _ | .dcx _ | .cma | .jmp _ | .jnz _ | .jz _ | .jnc _ | .jc _ | .jpo _ | .jpe _ | .jp _
  | .jm _ | .call _ | .cnz _ | .cz _ | .cnc _ | .cc _ | .cpo _ | .cpe _ | .cp _ | .cm _ | .ret | .rnz | .rz | .rnc | .rc
  | .rpo | .rpe | .rp | .rm | .rst _ | .pchl | .pushRp _ | .pushPsw | .popRp _ | .xthl | .sphl | .inPort _ | .outPort _
  | .ei | .di | .hlt | .nop | .undocNop _ | .undocJmp _ | .undocRet | .undocCall _ _ =>
    { s := false, z := false, ac := false, p := false, cy := false }

/-- The 8-bit registers of a pair; SP has none. -/
def pairHalves : Pair → List Reg
  | .bc => [.b, .c]
  | .de => [.d, .e]
  | .hl => [.h, .l]
  | .sp => []

/-- The 8-bit registers of a pair of PUSH and POP. -/
def stackPairHalves : StackPair → List Reg
  | .bc => [.b, .c]
  | .de => [.d, .e]
  | .hl => [.h, .l]

/-- The 8-bit registers an instruction writes: the third column of R27. -/
def regsWritten : Instr → List Reg
  | .movRR dst _ | .movRM dst | .mviR dst _ | .inrR dst | .dcrR dst => [dst]
  | .lxi p _ | .inx p | .dcx p => pairHalves p
  | .popRp p => stackPairHalves p
  | .lhld _ | .dad _ | .xthl => [.h, .l]
  | .xchg => [.d, .e, .h, .l]
  | .lda _ | .ldax _ | .addR _ | .addM | .adi _ | .adcR _ | .adcM | .aci _ | .subR _ | .subM | .sui _ | .sbbR _ | .sbbM
  | .sbi _ | .anaR _ | .anaM | .ani _ | .xraR _ | .xraM | .xri _ | .oraR _ | .oraM | .ori _ | .daa | .rlc | .rrc | .ral
  | .rar | .cma | .inPort _ | .popPsw => [.a]
  | .movMR _ | .mviM _ | .sta _ | .shld _ | .stax _ | .inrM | .dcrM | .cmpR _ | .cmpM | .cpi _ | .cmc | .stc | .jmp _
  | .jnz _ | .jz _ | .jnc _ | .jc _ | .jpo _ | .jpe _ | .jp _ | .jm _ | .call _ | .cnz _ | .cz _ | .cnc _ | .cc _
  | .cpo _ | .cpe _ | .cp _ | .cm _ | .ret | .rnz | .rz | .rnc | .rc | .rpo | .rpe | .rp | .rm | .rst _ | .pchl
  | .pushRp _ | .pushPsw | .sphl | .outPort _ | .ei | .di | .hlt | .nop | .undocNop _ | .undocJmp _ | .undocRet
  | .undocCall _ _ => []

/-- SP after an instruction (the row of SP in R27): two less after a push, two more after a pop. -/
def spAfter (i : Instr) (s : State) : Word :=
  match i with
  | .lxi p w => if p = .sp then w else s.sp
  | .inx p => if p = .sp then s.sp + 1#16 else s.sp
  | .dcx p => if p = .sp then s.sp - 1#16 else s.sp
  | .sphl => s.regs.hl
  | .pushRp _ | .pushPsw | .call _ | .rst _ | .undocCall _ _ => s.sp - 2#16
  | .popRp _ | .popPsw | .ret | .undocRet => s.sp + 2#16
  | .cnz _ | .cz _ | .cnc _ | .cc _ | .cpo _ | .cpe _ | .cp _ | .cm _ => if acts i s then s.sp - 2#16 else s.sp
  | .rnz | .rz | .rnc | .rc | .rpo | .rpe | .rp | .rm => if acts i s then s.sp + 2#16 else s.sp
  | .movRR _ _ | .movRM _ | .movMR _ | .mviR _ _ | .mviM _ | .lda _ | .sta _ | .lhld _ | .shld _ | .ldax _ | .stax _
  | .xchg | .addR _ | .addM | .adi _ | .adcR _ | .adcM | .aci _ | .subR _ | .subM | .sui _ | .sbbR _ | .sbbM | .sbi _
  | .inrR _ | .inrM | .dcrR _ | .dcrM | .dad _ | .daa | .anaR _ | .anaM | .ani _ | .xraR _ | .xraM | .xri _ | .oraR _
  | .oraM | .ori _ | .cmpR _ | .cmpM | .cpi _ | .rlc | .rrc | .ral | .rar | .cma | .cmc | .stc | .jmp _ | .jnz _ | .jz _
  | .jnc _ | .jc _ | .jpo _ | .jpe _ | .jp _ | .jm _ | .pchl | .xthl | .inPort _ | .outPort _ | .ei | .di | .hlt | .nop
  | .undocNop _ | .undocJmp _ => s.sp

/-- The bytes an instruction stores to, in the order of R81, each with the memory it goes to (R82, R83). -/
def storesTo (i : Instr) (s : State) : List (Kind × Word) :=
  match i with
  | .movMR _ | .mviM _ | .inrM | .dcrM => [(.data, s.regs.hl)]
  | .sta a => [(.data, a)]
  | .shld a => [(.data, a), (.data, a + 1#16)]
  | .stax p => [(.data, s.regs.indexPair p)]
  | .pushRp _ | .pushPsw | .call _ | .rst _ | .undocCall _ _ => [(.stack, s.sp - 1#16), (.stack, s.sp - 2#16)]
  | .cnz _ | .cz _ | .cnc _ | .cc _ | .cpo _ | .cpe _ | .cp _ | .cm _ =>
    if acts i s then [(.stack, s.sp - 1#16), (.stack, s.sp - 2#16)] else []
  | .xthl => [(.stack, s.sp + 1#16), (.stack, s.sp)]
  | .movRR _ _ | .movRM _ | .mviR _ _ | .lxi _ _ | .lda _ | .lhld _ | .ldax _ | .xchg | .addR _ | .addM | .adi _
  | .adcR _ | .adcM | .aci _ | .subR _ | .subM | .sui _ | .sbbR _ | .sbbM | .sbi _ | .inrR _ | .dcrR _ | .inx _ | .dcx _
  | .dad _ | .daa | .anaR _ | .anaM | .ani _ | .xraR _ | .xraM | .xri _ | .oraR _ | .oraM | .ori _ | .cmpR _ | .cmpM
  | .cpi _ | .rlc | .rrc | .ral | .rar | .cma | .cmc | .stc | .jmp _ | .jnz _ | .jz _ | .jnc _ | .jc _ | .jpo _ | .jpe _
  | .jp _ | .jm _ | .ret | .rnz | .rz | .rnc | .rc | .rpo | .rpe | .rp | .rm | .pchl | .popRp _ | .popPsw | .sphl
  | .inPort _ | .outPort _ | .ei | .di | .hlt | .nop | .undocNop _ | .undocJmp _ | .undocRet => []

/-! ### Which machine cycles an instruction performs -/

/-- Status byte and address bus of a machine cycle (R69). -/
def BusCycle.shape (c : BusCycle) : Byte × Option Word := (c.status, c.address)

/-- The byte of `k` at `a` after one more completed machine cycle: what the cycle stores there, else the byte before. -/
def State.landed (s : State) (k : Kind) (a : Word) (before : Byte) (c : BusCycle) : Byte :=
  match c with
  | .write b v => if s.apart k = s.apart .data ∧ s.writable .data b = true ∧ b = a then v else before
  | .stackWrite b v => if s.apart k = s.apart .stack ∧ s.writable .stack b = true ∧ b = a then v else before
  | .opcode _ _ | .operand _ _ | .read _ _ | .stackRead _ _ | .input _ _ | .output _ _ | .intAck _ _ _ | .haltAck => before

/-- The output event of a machine cycle, if it is an output (R64). -/
def BusCycle.outEvent : BusCycle → Option OutEvent
  | .output port v => some { port := port, v := v }
  | .opcode _ _ | .operand _ _ | .read _ _ | .write _ _ | .stackRead _ _ | .stackWrite _ _ | .input _ _ | .intAck _ _ _
  | .haltAck => none

/-- The machine cycles of an instruction after its own bytes are fetched, in order: the table of R81, with the status bytes of
R69 and the port numbers of R63. DAD's two internal cycles are not among them, and the halt-acknowledge cycle has no address: the
model's choice (log entry 17). -/
def accesses (i : Instr) (s : State) : List (Byte × Option Word) :=
  match i with
  | .movRM _ | .addM | .adcM | .subM | .sbbM | .anaM | .xraM | .oraM | .cmpM => [(0x82#8, some s.regs.hl)]
  | .movMR _ | .mviM _ => [(0x00#8, some s.regs.hl)]
  | .inrM | .dcrM => [(0x82#8, some s.regs.hl), (0x00#8, some s.regs.hl)]
  | .lda a => [(0x82#8, some a)]
  | .sta a => [(0x00#8, some a)]
  | .lhld a => [(0x82#8, some a), (0x82#8, some (a + 1#16))]
  | .shld a => [(0x00#8, some a), (0x00#8, some (a + 1#16))]
  | .ldax p => [(0x82#8, some (s.regs.indexPair p))]
  | .stax p => [(0x00#8, some (s.regs.indexPair p))]
  | .pushRp _ | .pushPsw | .call _ | .rst _ | .undocCall _ _ => [(0x04#8, some (s.sp - 1#16)), (0x04#8, some (s.sp - 2#16))]
  | .cnz _ | .cz _ | .cnc _ | .cc _ | .cpo _ | .cpe _ | .cp _ | .cm _ =>
    if acts i s then [(0x04#8, some (s.sp - 1#16)), (0x04#8, some (s.sp - 2#16))] else []
  | .popRp _ | .popPsw | .ret | .undocRet => [(0x86#8, some s.sp), (0x86#8, some (s.sp + 1#16))]
  | .rnz | .rz | .rnc | .rc | .rpo | .rpe | .rp | .rm =>
    if acts i s then [(0x86#8, some s.sp), (0x86#8, some (s.sp + 1#16))] else []
  | .xthl => [(0x86#8, some s.sp), (0x86#8, some (s.sp + 1#16)), (0x04#8, some (s.sp + 1#16)), (0x04#8, some s.sp)]
  | .inPort port => [(0x42#8, some (joinBytes port port))]
  | .outPort port => [(0x10#8, some (joinBytes port port))]
  | .hlt => [(0x8A#8, none)]
  | .movRR _ _ | .mviR _ _ | .lxi _ _ | .xchg | .addR _ | .adi _ | .adcR _ | .aci _ | .subR _ | .sui _ | .sbbR _
  | .sbi _ | .inrR _ | .dcrR _ | .inx _ | .dcx _ | .dad _ | .daa | .anaR _ | .ani _ | .xraR _ | .xri _ | .oraR _
  | .ori _ | .cmpR _ | .cpi _ | .rlc | .rrc | .ral | .rar | .cma | .cmc | .stc | .jmp _ | .jnz _ | .jz _ | .jnc _
  | .jc _ | .jpo _ | .jpe _ | .jp _ | .jm _ | .pchl | .sphl | .ei | .di | .nop | .undocNop _ | .undocJmp _ => []

end Sys2Proof.Machine
end

