-- ==== Sys2Proof/Certificates/Slice0/Obligations.lean ====
section
/-! DEFINITION. The statements for the provers. Each docstring names the rules of spec/ it comes from. -/

open Sys2Proof Sys2Proof.Machine

/-! ### Encoding -/

/-- R103 to R107, R112: decoding the bytes of any well-formed instruction, with anything after them, gives that instruction and
the rest, for every operand value. -/
def Obligations.DecodeEncodeAgree : Prop :=
  ∀ (i : Instr) (rest : List Byte), i.wellFormed = true → decode (encode i ++ rest) = .instr i rest

/-- R110, R111: every first byte is the opcode of a well-formed instruction, and encoding it gives back the bytes it has. -/
def Obligations.EncodeDecodeAgree : Prop :=
  ∀ op b2 b3 : Byte, (decodeFields op b2 b3).wellFormed = true ∧
    encode (decodeFields op b2 b3) = [op, b2, b3].take (opLength op)

/-- R108: the opcodes of two and of three bytes, listed; all others are one byte long. -/
def Obligations.OpcodeLengths : Prop :=
  ∀ op : Byte, opLength op =
    if op.toNat ∈ [0x06, 0x0E, 0x16, 0x1E, 0x26, 0x2E, 0x36, 0x3E, 0xC6, 0xCE, 0xD6, 0xDE, 0xE6, 0xEE, 0xF6, 0xFE, 0xD3, 0xDB]
    then 2
    else if op.toNat ∈ [0x01, 0x11, 0x21, 0x31, 0x22, 0x2A, 0x32, 0x3A, 0xC2, 0xCA, 0xD2, 0xDA, 0xE2, 0xEA, 0xF2, 0xFA, 0xC3,
      0xC4, 0xCC, 0xD4, 0xDC, 0xE4, 0xEC, 0xF4, 0xFC, 0xCD, 0xCB, 0xDD, 0xED, 0xFD]
    then 3
    else 1

/-- R111: the decoder rejects exactly a list too short for its first byte. -/
def Obligations.OnlyShortInputRejected : Prop :=
  ∀ bytes : List Byte, (∃ why, decode bytes = .rejected why) ↔
    bytes = [] ∨ ∃ op rest, bytes = op :: rest ∧ bytes.length < opLength op

/-- Words of R107, one of each family, written out from the encodings of their rules. -/
def Obligations.SpecimenWords : Prop :=
  decode [0b01_000_001#8] = .instr (.movRR .b .c) [] ∧
  decode [0b00_10_0001#8, 0x50#8, 0x20#8] = .instr (.lxi .hl 0x2050#16) [] ∧
  decode [0b10_011_110#8] = .instr .sbbM [] ∧
  decode [0b11_100_110#8, 0x0F#8] = .instr (.ani 0x0F#8) [] ∧
  decode [0b11_110_100#8, 0x00#8, 0x20#8] = .instr (.cp 0x2000#16) [] ∧
  decode [0b11_11_0001#8] = .instr .popPsw [] ∧
  decode [0b01_110_110#8] = .instr .hlt [] ∧
  decode [0b11_011_101#8, 0x34#8, 0x12#8] = .instr (.undocCall 1#2 0x1234#16) []

/-- R101, R102, R320: where no RESET comes, the host lets the bus go, the machine is not halted, no interrupt is accepted and no
other bus master takes part, a step whose bytes at PC decode to an instruction is that instruction's execution, with PC past
its bytes, their fetch cycles recorded, int_inhibit cleared and the host's event used up. The host's events and the record are
in the model's own form (log entries 6 and 17). -/
def Obligations.StepRunsDecodedInstruction : Prop :=
  ∀ (s : State) (i : Instr) (rest : List Byte),
    s.calm → s.unasked → s.halted = false → s.soleMaster →
    decode (s.bytesFrom s.pc 3) = .instr i rest →
    (∀ j : Nat, j < opLength (s.byteAt .opcode s.pc) → s.stored .opcode (s.pc + BitVec.ofNat 16 j) = true) →
    step s = exec i
      { s with
        pc := s.pc + BitVec.ofNat 16 (opLength (s.byteAt .opcode s.pc))
        intInhibit := false
        bus := s.fetchCycles (opLength (s.byteAt .opcode s.pc))
        clock := s.clock + s.event.stall.getD 0
        host := { s.host with events := s.host.events.tail } }

/-! ### Reset and the invariant -/

/-- R42: PC is 0000H and INTE, int_inhibit and halted are 0 after reset. The platform is that of R9's defaults: undocumented
opcodes are refused, `and_ac_rule` is `or_bit3`, all memory is ram, the stack has no memory of its own, and the admitted supplied
opcodes are RST and CALL. -/
def Obligations.ResetValues : Prop :=
  State.reset.pc = 0x0000#16 ∧ State.reset.inte = false ∧ State.reset.intInhibit = false ∧ State.reset.halted = false ∧
  State.reset.cfg.undoc = .refuse ∧ State.reset.cfg.andAc = .orBit3 ∧ State.reset.cfg.stackSeparate = false ∧
  (∀ a : Nat, classOf State.reset.cfg.memMap a = .ram) ∧
  (∀ op : Byte, State.reset.cfg.intPolicy.contains op = true ↔
    op = 0xCD#8 ∨ ∃ n : BitVec 3, op.toNat = 0xC7 + 8 * n.toNat)

/-- The memories of the reset state are in their canonical form (the model's own form, log entry 3). -/
def Obligations.ResetMemoryCanonical : Prop := State.reset.inv = true

/-- Every step keeps the memories in their canonical form, from every state that has it (the model's own form, log entry 3). -/
def Obligations.StepKeepsMemoryCanonical : Prop :=
  ∀ s t : State, s.inv = true → step s = .next t → t.inv = true

/-- Two memories in canonical form that read alike at every address are the same list (the model's own form, log entry 3). -/
def Obligations.CanonicalMemoryUnique : Prop :=
  ∀ m n : Memory, m.wf = true → n.wf = true → (∀ a, m.get a = n.get a) → m = n

/-- R340, R42: a RESET of at least three periods at a boundary completes whatever else the host does, and leaves every byte of
memory and the outputs as they were; wherever it comes, PC is 0000H and INTE, int_inhibit and halted are 0 after it. Inside an
instruction it completes too, unless the model has already refused the opcode (R280, R311). A shorter RESET is refused, as U7
asks (the model's choice, log entry 13). That the platform's parameters stay is the model's choice too (log entry 5). -/
def Obligations.ResetEventState : Prop :=
  ∀ s : State,
    (3 ≤ s.event.resetPeriods → s.event.abandonAfter = 0 → ∃ t, step s = .next t ∧
      t.pc = 0x0000#16 ∧ t.inte = false ∧ t.intInhibit = false ∧ t.halted = false ∧ t.cfg = s.cfg ∧
      t.ioOut = s.ioOut ∧ t.mem = s.mem ∧ t.stackMem = s.stackMem) ∧
    (3 ≤ s.event.resetPeriods → ∀ t, step s = .next t →
      t.pc = 0x0000#16 ∧ t.inte = false ∧ t.intInhibit = false ∧ t.halted = false ∧ t.cfg = s.cfg) ∧
    (3 ≤ s.event.resetPeriods → (∃ t, step s = .next t) ∨
      0 < s.event.abandonAfter ∧ ∃ why, step s = .refused why ∧ why ≠ .shortReset) ∧
    (0 < s.event.resetPeriods → s.event.resetPeriods < 3 → step s = .refused .shortReset)

/-- R342: a RESET that comes after some machine cycles of an instruction, or of an interrupt entry, that would have completed
without it: memory and the outputs hold the writes and outputs of exactly those cycles, in order, where no other bus master takes
part; PC is 0000H and INTE, int_inhibit and halted are 0. The event's count of completed cycles is the model's form (log entry
12). -/
def Obligations.ResetKeepsCompletedCycles : Prop :=
  ∀ (s u : State) (ev : HostEvent) (rest : List HostEvent), s.inv = true → s.soleMaster →
    s.host.events = ev :: rest → 3 ≤ ev.resetPeriods →
    step { s with host := { s.host with events := { ev with resetPeriods := 0 } :: rest } } = .next u →
    ∃ t, step s = .next t ∧ t.bus = u.bus.take ev.abandonAfter ∧
      (∀ k a, t.byteAt k a = (u.bus.take ev.abandonAfter).foldl (s.landed k a) (s.byteAt k a)) ∧
      t.ioOut = s.ioOut ++ (u.bus.take ev.abandonAfter).filterMap BusCycle.outEvent ∧
      t.pc = 0x0000#16 ∧ t.inte = false ∧ t.intInhibit = false ∧ t.halted = false

/-! ### Registers and flags -/

/-- R21, R24: each register code names a register of its own. -/
def Obligations.RegistersAreDistinct : Prop :=
  ∀ (rs : Regs) (r q : Reg) (v : Byte), (rs.set r v).get q = if q = r then v else rs.get q

/-- R23: a pair reads as its two registers, the first the high byte; writing a pair writes both and nothing else; writing one
register changes its half of its pair only. -/
def Obligations.PairsAreViews : Prop :=
  ∀ (rs : Regs) (w : Word) (v : Byte),
    rs.bc.toNat = 256 * rs.b.toNat + rs.c.toNat ∧ rs.de.toNat = 256 * rs.d.toNat + rs.e.toNat ∧
    rs.hl.toNat = 256 * rs.h.toNat + rs.l.toNat ∧
    (rs.setBc w).bc = w ∧ (rs.setBc w).de = rs.de ∧ (rs.setBc w).hl = rs.hl ∧ (rs.setBc w).a = rs.a ∧
    (rs.setDe w).de = w ∧ (rs.setDe w).bc = rs.bc ∧ (rs.setDe w).hl = rs.hl ∧ (rs.setDe w).a = rs.a ∧
    (rs.setHl w).hl = w ∧ (rs.setHl w).bc = rs.bc ∧ (rs.setHl w).de = rs.de ∧ (rs.setHl w).a = rs.a ∧
    (rs.set .h v).hl.toNat = 256 * v.toNat + rs.l.toNat ∧ (rs.set .l v).hl.toNat = 256 * rs.h.toNat + v.toNat ∧
    (rs.set .b v).bc.toNat = 256 * v.toNat + rs.c.toNat ∧ (rs.set .c v).bc.toNat = 256 * rs.b.toNat + v.toNat ∧
    (rs.set .d v).de.toNat = 256 * v.toNat + rs.e.toNat ∧ (rs.set .e v).de.toNat = 256 * rs.d.toNat + v.toNat

/-- R16: SetSZP writes S from bit 7, Z from the value being zero, P from its number of 1 bits being even (R12), and touches
neither AC nor CY. -/
def Obligations.SignZeroParity : Prop :=
  ∀ (f : Flags) (v : Byte),
    (f.setSZP v).s = v.getLsbD 7 ∧ ((f.setSZP v).z = true ↔ v.toNat = 0) ∧
    ((f.setSZP v).p = true ↔ (List.range 8).countP (fun k => v.getLsbD k) % 2 = 0) ∧
    (f.setSZP v).ac = f.ac ∧ (f.setSZP v).cy = f.cy

/-- R32: the flag byte's bits, the fixed ones among them; what SetFlagByte reads; and that it reads back what was composed. -/
def Obligations.FlagByteLayout : Prop :=
  ∀ (f : Flags) (v : Byte),
    (f.byte.getLsbD 7 = f.s ∧ f.byte.getLsbD 6 = f.z ∧ f.byte.getLsbD 5 = false ∧ f.byte.getLsbD 4 = f.ac ∧
     f.byte.getLsbD 3 = false ∧ f.byte.getLsbD 2 = f.p ∧ f.byte.getLsbD 1 = true ∧ f.byte.getLsbD 0 = f.cy) ∧
    ((Flags.ofByte v).s = v.getLsbD 7 ∧ (Flags.ofByte v).z = v.getLsbD 6 ∧ (Flags.ofByte v).ac = v.getLsbD 4 ∧
     (Flags.ofByte v).p = v.getLsbD 2 ∧ (Flags.ofByte v).cy = v.getLsbD 0) ∧
    Flags.ofByte f.byte = f

/-- R160: the adder's result is the sum modulo 256, its carries are those out of bit 7 and out of bit 3. -/
def Obligations.AdderSums : Prop :=
  ∀ (a b : Byte) (cin : Bool),
    (add8 a b cin).v = a + b + (if cin then 1#8 else 0#8) ∧
    ((add8 a b cin).cy = true ↔ 256 ≤ a.toNat + b.toNat + cin.toNat) ∧
    ((add8 a b cin).ac = true ↔ 16 ≤ a.toNat % 16 + b.toNat % 16 + cin.toNat)

/-- R161: adding the complement subtracts modulo 256; CY is a borrow; AC is no borrow from bit 4. -/
def Obligations.SubtractorDifferences : Prop :=
  ∀ (a b : Byte) (bin : Bool),
    (sub8 a b bin).v = a - b - (if bin then 1#8 else 0#8) ∧
    ((sub8 a b bin).cy = true ↔ a.toNat < b.toNat + bin.toNat) ∧
    ((sub8 a b bin).ac = true ↔ b.toNat % 16 + bin.toNat ≤ a.toNat % 16)

/-- R220: the eight condition tests, each of one flag. -/
def Obligations.ConditionTests : Prop :=
  ∀ f : Flags,
    (f.holds .nz = true ↔ f.z = false) ∧ (f.holds .z = true ↔ f.z = true) ∧
    (f.holds .nc = true ↔ f.cy = false) ∧ (f.holds .c = true ↔ f.cy = true) ∧
    (f.holds .po = true ↔ f.p = false) ∧ (f.holds .pe = true ↔ f.p = true) ∧
    (f.holds .p = true ↔ f.s = false) ∧ (f.holds .m = true ↔ f.s = true)

/-! ### Data transfer -/

/-- R141, R144, R153, R207: MOV r1,r2, MVI r,d8, XCHG and CMA complete in every state, with their result; nothing else changes
but the clock. -/
def Obligations.RegisterMoves : Prop :=
  ∀ s : State,
    (∀ dst src, exec (.movRR dst src) s = .next { s with regs := s.regs.set dst (s.regs.get src), clock := s.clock + 5 }) ∧
    (∀ dst v, exec (.mviR dst v) s = .next { s with regs := s.regs.set dst v, clock := s.clock + 7 }) ∧
    exec .xchg s = .next { s with
      regs := { s.regs with h := s.regs.d, l := s.regs.e, d := s.regs.h, e := s.regs.l }, clock := s.clock + 4 } ∧
    exec .cma s = .next { s with regs := { s.regs with a := ~~~s.regs.a }, clock := s.clock + 4 }

/-- R146, R178, R179, R265: LXI, INX, DCX and SPHL complete in every state, with their result, modulo 2^16; no flag changes. -/
def Obligations.PairMoves : Prop :=
  ∀ (s : State) (w : Word),
    exec (.lxi .bc w) s = .next { s with regs := s.regs.setBc w, clock := s.clock + 10 } ∧
    exec (.lxi .de w) s = .next { s with regs := s.regs.setDe w, clock := s.clock + 10 } ∧
    exec (.lxi .hl w) s = .next { s with regs := s.regs.setHl w, clock := s.clock + 10 } ∧
    exec (.lxi .sp w) s = .next { s with sp := w, clock := s.clock + 10 } ∧
    exec (.inx .bc) s = .next { s with regs := s.regs.setBc (s.regs.bc + 1#16), clock := s.clock + 5 } ∧
    exec (.inx .de) s = .next { s with regs := s.regs.setDe (s.regs.de + 1#16), clock := s.clock + 5 } ∧
    exec (.inx .hl) s = .next { s with regs := s.regs.setHl (s.regs.hl + 1#16), clock := s.clock + 5 } ∧
    exec (.inx .sp) s = .next { s with sp := s.sp + 1#16, clock := s.clock + 5 } ∧
    exec (.dcx .bc) s = .next { s with regs := s.regs.setBc (s.regs.bc - 1#16), clock := s.clock + 5 } ∧
    exec (.dcx .de) s = .next { s with regs := s.regs.setDe (s.regs.de - 1#16), clock := s.clock + 5 } ∧
    exec (.dcx .hl) s = .next { s with regs := s.regs.setHl (s.regs.hl - 1#16), clock := s.clock + 5 } ∧
    exec (.dcx .sp) s = .next { s with sp := s.sp - 1#16, clock := s.clock + 5 } ∧
    exec .sphl s = .next { s with sp := s.regs.hl, clock := s.clock + 5 }

/-- R142, R147, R149, R151: MOV r,M, LDA, LHLD and LDAX complete on every platform with what the read answers; where no other bus
master takes part and the addresses hold stored bytes, that is those bytes, low byte first, and only the destination, the
record of the cycles and the clock change. -/
def Obligations.LoadsReadMemory : Prop :=
  ∀ s : State,
    (∀ dst, exec (.movRM dst) s = .next { s.afterRead .data s.regs.hl with
      regs := s.regs.set dst (s.readVal .data s.regs.hl), clock := s.clock + 7 }) ∧
    (∀ a, exec (.lda a) s = .next { s.afterRead .data a with
      regs := { s.regs with a := s.readVal .data a }, clock := s.clock + 13 }) ∧
    (∀ p, exec (.ldax p) s = .next { s.afterRead .data (s.regs.indexPair p) with
      regs := { s.regs with a := s.readVal .data (s.regs.indexPair p) }, clock := s.clock + 7 }) ∧
    (∀ a, exec (.lhld a) s = .next { s.afterRead16 .data a with
      regs := s.regs.setHl (s.readVal16 .data a), clock := s.clock + 16 }) ∧
    (s.soleMaster →
      (∀ dst, s.stored .data s.regs.hl = true → exec (.movRM dst) s = .next { s with
        regs := s.regs.set dst (s.byteAt .data s.regs.hl)
        bus := s.bus ++ [.read s.regs.hl (s.byteAt .data s.regs.hl)], clock := s.clock + 7 }) ∧
      (∀ a, s.stored .data a = true → exec (.lda a) s = .next { s with
        regs := { s.regs with a := s.byteAt .data a }
        bus := s.bus ++ [.read a (s.byteAt .data a)], clock := s.clock + 13 }) ∧
      (∀ p, s.stored .data (s.regs.indexPair p) = true → exec (.ldax p) s = .next { s with
        regs := { s.regs with a := s.byteAt .data (s.regs.indexPair p) }
        bus := s.bus ++ [.read (s.regs.indexPair p) (s.byteAt .data (s.regs.indexPair p))], clock := s.clock + 7 }) ∧
      (∀ a, s.stored .data a = true → s.stored .data (a + 1#16) = true → exec (.lhld a) s = .next { s with
        regs := { s.regs with l := s.byteAt .data a, h := s.byteAt .data (a + 1#16) }
        bus := s.bus ++ [.read a (s.byteAt .data a), .read (a + 1#16) (s.byteAt .data (a + 1#16))]
        clock := s.clock + 16 }))

/-- R143, R145, R148, R150, R152: MOV M,r, MVI M, STA, STAX and SHLD complete on every platform as their writes, in order, and
the clock. -/
def Obligations.StoresWriteMemory : Prop :=
  ∀ s : State,
    (∀ src, exec (.movMR src) s = .next { s.write .data s.regs.hl (s.regs.get src) with clock := s.clock + 7 }) ∧
    (∀ v, exec (.mviM v) s = .next { s.write .data s.regs.hl v with clock := s.clock + 10 }) ∧
    (∀ a, exec (.sta a) s = .next { s.write .data a s.regs.a with clock := s.clock + 13 }) ∧
    (∀ p, exec (.stax p) s = .next { s.write .data (s.regs.indexPair p) s.regs.a with clock := s.clock + 7 }) ∧
    (∀ a, exec (.shld a) s = .next { (s.write .data a s.regs.l).write .data (a + 1#16) s.regs.h with
      clock := s.clock + 16 })

/-- R143, R145, R148, R150, R152, R67: after MOV M,r, MVI M, STA, STAX and SHLD the stored byte reads back at its address, from
every state with memory in canonical form where no other bus master takes part and the address is writable (R74); SHLD stores L
at the address and H at the next, modulo 2^16. -/
def Obligations.StoredBytesReadBack : Prop :=
  ∀ s : State, s.inv = true → s.soleMaster →
    (∀ src t, s.writable .data s.regs.hl = true → exec (.movMR src) s = .next t →
      t.byteAt .data s.regs.hl = s.regs.get src) ∧
    (∀ v t, s.writable .data s.regs.hl = true → exec (.mviM v) s = .next t → t.byteAt .data s.regs.hl = v) ∧
    (∀ a t, s.writable .data a = true → exec (.sta a) s = .next t → t.byteAt .data a = s.regs.a) ∧
    (∀ p t, s.writable .data (s.regs.indexPair p) = true → exec (.stax p) s = .next t →
      t.byteAt .data (s.regs.indexPair p) = s.regs.a) ∧
    (∀ a t, s.writable .data a = true → s.writable .data (a + 1#16) = true → exec (.shld a) s = .next t →
      t.byteAt .data a = s.regs.l ∧ t.byteAt .data (a + 1#16) = s.regs.h)

/-- R79: the byte that STA stores at the address of the next instruction is the one its fetch reads. -/
def Obligations.NextFetchSeesStore : Prop :=
  ∀ s t : State, s.inv = true → s.soleMaster → s.writable .data s.pc = true → exec (.sta s.pc) s = .next t →
    t.pc = s.pc ∧ t.fetchVal .opcode = s.regs.a

/-! ### Arithmetic -/

/-- R162 to R167: ADD and ADC in their register, memory and immediate forms complete on every platform: A is the sum modulo 256,
CY the carry out of bit 7, AC the carry out of bit 3, S, Z and P of the result. -/
def Obligations.AdditionForms : Prop :=
  ∀ (s : State) (src : Reg) (v : Byte),
    let sum (x : Byte) (c : Bool) (n : Nat) (t : State) : State := { t with
      regs := { s.regs with a := s.regs.a + x + (if c then 1#8 else 0#8) }
      flags := flagsFor (s.regs.a + x + (if c then 1#8 else 0#8)) (decide (256 ≤ s.regs.a.toNat + x.toNat + c.toNat))
        (decide (16 ≤ s.regs.a.toNat % 16 + x.toNat % 16 + c.toNat))
      clock := s.clock + n }
    exec (.addR src) s = .next (sum (s.regs.get src) false 4 s) ∧
    exec .addM s = .next (sum (s.readVal .data s.regs.hl) false 7 (s.afterRead .data s.regs.hl)) ∧
    exec (.adi v) s = .next (sum v false 7 s) ∧
    exec (.adcR src) s = .next (sum (s.regs.get src) s.flags.cy 4 s) ∧
    exec .adcM s = .next (sum (s.readVal .data s.regs.hl) s.flags.cy 7 (s.afterRead .data s.regs.hl)) ∧
    exec (.aci v) s = .next (sum v s.flags.cy 7 s)

/-- R168 to R173: SUB and SBB in their register, memory and immediate forms complete on every platform: A is the difference
modulo 256, CY the borrow, AC no borrow from bit 4, S, Z and P of the result. -/
def Obligations.SubtractionForms : Prop :=
  ∀ (s : State) (src : Reg) (v : Byte),
    let diff (x : Byte) (c : Bool) (n : Nat) (t : State) : State := { t with
      regs := { s.regs with a := s.regs.a - x - (if c then 1#8 else 0#8) }
      flags := flagsFor (s.regs.a - x - (if c then 1#8 else 0#8)) (decide (s.regs.a.toNat < x.toNat + c.toNat))
        (decide (x.toNat % 16 + c.toNat ≤ s.regs.a.toNat % 16))
      clock := s.clock + n }
    exec (.subR src) s = .next (diff (s.regs.get src) false 4 s) ∧
    exec .subM s = .next (diff (s.readVal .data s.regs.hl) false 7 (s.afterRead .data s.regs.hl)) ∧
    exec (.sui v) s = .next (diff v false 7 s) ∧
    exec (.sbbR src) s = .next (diff (s.regs.get src) s.flags.cy 4 s) ∧
    exec .sbbM s = .next (diff (s.readVal .data s.regs.hl) s.flags.cy 7 (s.afterRead .data s.regs.hl)) ∧
    exec (.sbi v) s = .next (diff v s.flags.cy 7 s)

/-- R200 to R202, R186 (e): CMP and CPI complete on every platform and write only flags: Z where the operands are equal, CY where
A is the less as an unsigned number, AC, S and P as SUB would; A is kept. -/
def Obligations.ComparisonForms : Prop :=
  ∀ (s : State) (src : Reg) (v : Byte),
    let marks (x : Byte) : Flags := {
      s := (s.regs.a - x).getLsbD 7
      z := decide (s.regs.a = x)
      ac := decide (x.toNat % 16 ≤ s.regs.a.toNat % 16)
      p := parity8 (s.regs.a - x)
      cy := decide (s.regs.a.toNat < x.toNat) }
    exec (.cmpR src) s = .next { s with flags := marks (s.regs.get src), clock := s.clock + 4 } ∧
    exec .cmpM s = .next { s.afterRead .data s.regs.hl with
      flags := marks (s.readVal .data s.regs.hl), clock := s.clock + 7 } ∧
    exec (.cpi v) s = .next { s with flags := marks v, clock := s.clock + 7 }

/-- R174 to R177: INR and DCR of a register and of the byte at HL complete on every platform: the operand plus or minus one modulo
256, written back; S, Z and P of the result, AC by the low digit, CY kept. -/
def Obligations.CountForms : Prop :=
  ∀ (s : State) (dst : Reg),
    let up (x : Byte) : Flags := flagsFor (x + 1#8) s.flags.cy (decide ((x + 1#8).toNat % 16 = 0))
    let down (x : Byte) : Flags := flagsFor (x - 1#8) s.flags.cy (decide (x.toNat % 16 ≠ 0))
    let m := s.readVal .data s.regs.hl
    exec (.inrR dst) s = .next { s with
      regs := s.regs.set dst (s.regs.get dst + 1#8), flags := up (s.regs.get dst), clock := s.clock + 5 } ∧
    exec (.dcrR dst) s = .next { s with
      regs := s.regs.set dst (s.regs.get dst - 1#8), flags := down (s.regs.get dst), clock := s.clock + 5 } ∧
    exec .inrM s = .next { (s.afterRead .data s.regs.hl).write .data s.regs.hl (m + 1#8) with
      flags := up m, clock := s.clock + 10 } ∧
    exec .dcrM s = .next { (s.afterRead .data s.regs.hl).write .data s.regs.hl (m - 1#8) with
      flags := down m, clock := s.clock + 10 }

/-- R184: DAD completes in every state: HL is the sum modulo 2^16 and CY its carry; no other flag changes. -/
def Obligations.DoubleAdd : Prop :=
  ∀ (s : State) (p : Pair),
    exec (.dad p) s = .next { s with
      regs := s.regs.setHl (s.regs.hl + s.pair p)
      flags := { s.flags with cy := decide (65536 ≤ s.regs.hl.toNat + (s.pair p).toNat) }
      clock := s.clock + 10 }

/-- R185: DAA completes in every state: it adds 06H where the low digit is above 9 or AC is set, and 60H where the high digit is
above 9, or CY is set, or both digits together ask for it (A above 99H); AC is the carry out of bit 3 of that addition; CY is
set with the high adjustment and otherwise kept. -/
def Obligations.DecimalAdjust : Prop :=
  ∀ s : State,
    let low := decide (9 < s.regs.a.toNat % 16) || s.flags.ac
    let high := decide (0x99 < s.regs.a.toNat) || s.flags.cy
    let sum := s.regs.a + (if low then 0x06#8 else 0x00#8) + (if high then 0x60#8 else 0x00#8)
    exec .daa s = .next { s with
      regs := { s.regs with a := sum }
      flags := flagsFor sum high (low && decide (10 ≤ s.regs.a.toNat % 16))
      clock := s.clock + 4 }

/-- R165, R185: ADC of a register, then DAA, adds two numbers of two decimal digits, the incoming carry included: the result is
the last two digits in packed form and CY the hundred. -/
def Obligations.DecimalAddition : Prop :=
  ∀ (s t u : State) (src : Reg), packed s.regs.a → packed (s.regs.get src) →
    exec (.adcR src) s = .next t → exec .daa t = .next u →
    packed u.regs.a ∧
    unpacked u.regs.a + 100 * u.flags.cy.toNat = unpacked s.regs.a + unpacked (s.regs.get src) + s.flags.cy.toNat

/-! ### Logic -/

/-- R190 to R193: ANA and ANI complete on every platform: A is the conjunction, CY 0, S, Z and P of the result, AC by the platform's
rule: the OR of the operands' bits 3, or 1, or 0. -/
def Obligations.ConjunctionForms : Prop :=
  ∀ (s : State) (src : Reg) (v : Byte),
    let conj (x : Byte) (n : Nat) (t : State) : State := { t with
      regs := { s.regs with a := s.regs.a &&& x }
      flags := flagsFor (s.regs.a &&& x) false (match s.cfg.andAc with
        | .orBit3 => s.regs.a.getLsbD 3 || x.getLsbD 3
        | .set => true
        | .clear => false)
      clock := s.clock + n }
    exec (.anaR src) s = .next (conj (s.regs.get src) 4 s) ∧
    exec .anaM s = .next (conj (s.readVal .data s.regs.hl) 7 (s.afterRead .data s.regs.hl)) ∧
    exec (.ani v) s = .next (conj v 7 s)

/-- R194 to R199: XRA, XRI, ORA and ORI complete on every platform: A is the result, CY and AC are 0, S, Z and P of the result. -/
def Obligations.DisjunctionForms : Prop :=
  ∀ (s : State) (src : Reg) (v : Byte),
    let put (r : Byte) (n : Nat) (t : State) : State := { t with
      regs := { s.regs with a := r }, flags := flagsFor r false false, clock := s.clock + n }
    let m := s.readVal .data s.regs.hl
    exec (.xraR src) s = .next (put (s.regs.a ^^^ s.regs.get src) 4 s) ∧
    exec .xraM s = .next (put (s.regs.a ^^^ m) 7 (s.afterRead .data s.regs.hl)) ∧
    exec (.xri v) s = .next (put (s.regs.a ^^^ v) 7 s) ∧
    exec (.oraR src) s = .next (put (s.regs.a ||| s.regs.get src) 4 s) ∧
    exec .oraM s = .next (put (s.regs.a ||| m) 7 (s.afterRead .data s.regs.hl)) ∧
    exec (.ori v) s = .next (put (s.regs.a ||| v) 7 s)

/-- R203 to R206, R208, R209: the four rotates complete in every state, as arithmetic on A: the bit shifted out goes to CY, the bit
shifted in is that same bit (RLC, RRC) or the old CY (RAL, RAR); CMC inverts CY and STC sets it, A kept; no other flag changes. -/
def Obligations.RotateCarryForms : Prop :=
  ∀ s : State,
    let put (v : Nat) (cy : Bool) : State := { s with
      regs := { s.regs with a := BitVec.ofNat 8 v }, flags := { s.flags with cy := cy }, clock := s.clock + 4 }
    let a := s.regs.a.toNat
    exec .rlc s = .next (put (2 * a % 256 + a / 128) (decide (128 ≤ a))) ∧
    exec .rrc s = .next (put (a / 2 + 128 * (a % 2)) (decide (a % 2 = 1))) ∧
    exec .ral s = .next (put (2 * a % 256 + s.flags.cy.toNat) (decide (128 ≤ a))) ∧
    exec .rar s = .next (put (a / 2 + 128 * s.flags.cy.toNat) (decide (a % 2 = 1))) ∧
    exec .cmc s = .next (put a (!s.flags.cy)) ∧
    exec .stc s = .next (put a true)

/-! ### Control transfers -/

/-- R221 to R229, R249: JMP, PCHL and the eight conditional jumps complete in every state: PC is the target, or stays where it is
if the condition fails, and nothing else changes but the clock. -/
def Obligations.JumpForms : Prop :=
  ∀ (s : State) (a : Word) (cc : Cond),
    exec (.jmp a) s = .next { s with pc := a, clock := s.clock + 10 } ∧
    exec .pchl s = .next { s with pc := s.regs.hl, clock := s.clock + 5 } ∧
    exec (jumpOn cc a) s = .next { s with pc := if s.flags.holds cc then a else s.pc, clock := s.clock + 10 }

/-- R230 to R238, R248, R72: CALL, RST and the eight conditional calls complete on every platform: PC is written high byte first
below SP, SP goes down by two and PC is the target; a call whose condition fails changes nothing but the clock. -/
def Obligations.CallForms : Prop :=
  ∀ (s : State) (a : Word) (n : BitVec 3) (cc : Cond),
    let pushed (target : Word) (k : Nat) : State := {
      (s.write .stack (s.sp - 1#16) (BitVec.ofNat 8 (s.pc.toNat / 256))).write .stack (s.sp - 2#16)
        (BitVec.ofNat 8 (s.pc.toNat % 256)) with
      sp := s.sp - 2#16, pc := target, clock := s.clock + k }
    exec (.call a) s = .next (pushed a 17) ∧
    exec (.rst n) s = .next (pushed (BitVec.ofNat 16 (8 * n.toNat)) 11) ∧
    exec (callOn cc a) s = .next (if s.flags.holds cc then pushed a 17 else { s with clock := s.clock + 11 })

/-- R239 to R247, R72: RET and the eight conditional returns complete on every platform: PC is the word read at SP, low byte
first, and SP goes up by two; a return whose condition fails changes nothing but the clock. -/
def Obligations.ReturnForms : Prop :=
  ∀ (s : State) (cc : Cond),
    let popped (k : Nat) : State := { (s.afterRead .stack s.sp).afterRead .stack (s.sp + 1#16) with
      sp := s.sp + 2#16
      pc := BitVec.ofNat 16
        (256 * ((s.afterRead .stack s.sp).readVal .stack (s.sp + 1#16)).toNat + (s.readVal .stack s.sp).toNat)
      clock := s.clock + k }
    exec .ret s = .next (popped 10) ∧
    exec (returnOn cc) s = .next (if s.flags.holds cc then popped 11 else { s with clock := s.clock + 5 })

/-- R230, R239, R72: a RET right after a CALL comes back to where the CALL would have gone on, with SP as it was and every
register and flag kept, from every state with memory in canonical form where no other bus master takes part and the two stack
bytes are writable. -/
def Obligations.ReturnUndoesCall : Prop :=
  ∀ (s t u : State) (a : Word), s.inv = true → s.soleMaster →
    s.writable .stack (s.sp - 1#16) = true → s.writable .stack (s.sp - 2#16) = true →
    exec (.call a) s = .next t → exec .ret t = .next u →
    u.pc = s.pc ∧ u.sp = s.sp ∧ u.regs = s.regs ∧ u.flags = s.flags

/-! ### Stack, input-output and machine control -/

/-- R260 to R263: PUSH and POP of a pair and of PSW complete on every platform: the high byte is written at SP - 1, then the low
byte at SP - 2; the low byte is read at SP, then the high byte at SP + 1. -/
def Obligations.PushPopForms : Prop :=
  ∀ (s : State) (p : StackPair),
    let pushed (w : Word) : State := {
      (s.write .stack (s.sp - 1#16) (BitVec.ofNat 8 (w.toNat / 256))).write .stack (s.sp - 2#16)
        (BitVec.ofNat 8 (w.toNat % 256)) with sp := s.sp - 2#16, clock := s.clock + 11 }
    let t := s.afterRead .stack s.sp
    let low := s.readVal .stack s.sp
    let high := t.readVal .stack (s.sp + 1#16)
    exec (.pushRp p) s = .next (pushed (s.regs.stackPair p)) ∧
    exec .pushPsw s = .next { (s.write .stack (s.sp - 1#16) s.regs.a).write .stack (s.sp - 2#16) s.flags.byte with
      sp := s.sp - 2#16, clock := s.clock + 11 } ∧
    exec (.popRp p) s = .next { t.afterRead .stack (s.sp + 1#16) with
      regs := s.regs.setStackPair p (BitVec.ofNat 16 (256 * high.toNat + low.toNat))
      sp := s.sp + 2#16, clock := s.clock + 10 } ∧
    exec .popPsw s = .next { t.afterRead .stack (s.sp + 1#16) with
      regs := { s.regs with a := high }, flags := Flags.ofByte low, sp := s.sp + 2#16, clock := s.clock + 10 }

/-- R261, R263: POP PSW after PUSH PSW brings back A and all five flags, whatever A and the flags have become meanwhile, if SP and
the memories are as the push left them. -/
def Obligations.PopPswUndoesPush : Prop :=
  ∀ (s t u v : State), s.inv = true → s.soleMaster →
    s.writable .stack (s.sp - 1#16) = true → s.writable .stack (s.sp - 2#16) = true →
    exec .pushPsw s = .next t →
    u.sp = t.sp → u.mem = t.mem → u.stackMem = t.stackMem → u.cfg = t.cfg → u.soleMaster →
    exec .popPsw u = .next v →
    v.regs.a = s.regs.a ∧ v.flags = s.flags ∧ v.sp = s.sp

/-- R264: XTHL completes on every platform: HL is the word read at SP, and then H is written at SP + 1 and L at SP; SP is kept. -/
def Obligations.ExchangeWithTop : Prop :=
  ∀ s : State,
    let t := s.afterRead .stack s.sp
    exec .xthl s = .next {
      ((t.afterRead .stack (s.sp + 1#16)).write .stack (s.sp + 1#16) s.regs.h).write .stack s.sp s.regs.l with
      regs := { s.regs with h := t.readVal .stack (s.sp + 1#16), l := s.readVal .stack s.sp }
      clock := s.clock + 18 }

/-- R266, R64: IN completes on every platform, with the next byte the host supplies in A, and no flag; where the host's list has
run out A is the next free value (the model's form of the draw, log entries 7 and 8). -/
def Obligations.InputForm : Prop :=
  ∀ (s : State) (port : Byte), ∃ t, exec (.inPort port) s = .next t ∧
    (∀ v rest, s.host.ioIn = v :: rest → t.regs = { s.regs with a := v } ∧ t.host.ioIn = rest ∧ t.draws = s.draws) ∧
    (s.host.ioIn = [] → t.regs = { s.regs with a := Config.freeByte s.draws } ∧ t.draws = s.draws + 1) ∧
    t.flags = s.flags ∧ t.sp = s.sp ∧ t.pc = s.pc ∧ t.inte = s.inte ∧ t.intInhibit = s.intInhibit ∧
    t.halted = s.halted ∧ t.ioOut = s.ioOut ∧ t.clock = s.clock + 10 ∧ (∃ v, t.bus = s.bus ++ [.input port v])

/-- R267, R64: OUT completes on every platform and appends its event to the outputs, A and the flags kept; where no other bus
master takes part nothing else changes but the record of the cycle and the clock. That an output changes neither memory nor the
coming inputs is the model's choice (log entry 8): R64 lets a device change them. -/
def Obligations.OutputForm : Prop :=
  ∀ (s : State) (port : Byte),
    (∃ t, exec (.outPort port) s = .next t ∧ t.ioOut = s.ioOut ++ [{ port := port, v := s.regs.a }] ∧ t.regs = s.regs ∧
      t.flags = s.flags) ∧
    (s.soleMaster → exec (.outPort port) s = .next { s with
      ioOut := s.ioOut ++ [{ port := port, v := s.regs.a }]
      bus := s.bus ++ [.output port s.regs.a], clock := s.clock + 10 })

/-- R273, R274, R275, R276: EI, DI, HLT and NOP complete on every platform: EI sets INTE and int_inhibit, DI clears INTE, HLT
enters the halt state with a halt-acknowledge cycle, NOP does nothing; the clock counts each. -/
def Obligations.ControlForms : Prop :=
  ∀ s : State,
    exec .ei s = .next { s with inte := true, intInhibit := true, clock := s.clock + 4 } ∧
    exec .di s = .next { s with inte := false, clock := s.clock + 4 } ∧
    exec .hlt s = .next { s.busTurn with halted := true, bus := s.bus ++ [.haltAck], clock := s.clock + 7 } ∧
    (s.soleMaster → exec .hlt s = .next { s with halted := true, bus := s.bus ++ [.haltAck], clock := s.clock + 7 }) ∧
    exec .nop s = .next { s with clock := s.clock + 4 }

/-- R280 to R284: under `alias` each undocumented opcode does exactly what the documented instruction it duplicates does; under
`refuse`, the default of R9, it is refused. -/
def Obligations.UndocumentedForms : Prop :=
  ∀ (s : State) (n : BitVec 3) (xx : BitVec 2) (a : Word),
    (s.cfg.undoc = .asDocumented →
      exec (.undocNop n) s = .next { s with clock := s.clock + 4 } ∧
      exec (.undocJmp a) s = .next { s with pc := a, clock := s.clock + 10 } ∧
      (∃ t, exec .undocRet s = .next t ∧ exec .ret s = .next t) ∧
      (∃ t, exec (.undocCall xx a) s = .next t ∧ exec (.call a) s = .next t)) ∧
    (s.cfg.undoc = .refuse →
      exec (.undocNop n) s = .refused .undocumentedOpcode ∧ exec (.undocJmp a) s = .refused .undocumentedOpcode ∧
      exec .undocRet s = .refused .undocumentedOpcode ∧ exec (.undocCall xx a) s = .refused .undocumentedOpcode)

/-! ### What no instruction does -/

/-- R300, R110: no instruction faults, and the only refusal of an instruction is that of an undocumented opcode under the policy
`refuse`. -/
def Obligations.InstructionsNeverFault : Prop :=
  ∀ (i : Instr) (s : State),
    (∃ t, exec i s = .next t) ∨ exec i s = .refused .undocumentedOpcode ∧ s.cfg.undoc = .refuse

/-- R27: an instruction changes no 8-bit register but those it writes, and leaves SP as its rule says. -/
def Obligations.RegisterFrame : Prop :=
  ∀ (i : Instr) (s t : State), exec i s = .next t →
    (∀ r : Reg, r ∉ regsWritten i → t.regs.get r = s.regs.get r) ∧ t.sp = spAfter i s

/-- R33: an instruction changes no flag but those of its row of the table. -/
def Obligations.FlagFrame : Prop :=
  ∀ (i : Instr) (s t : State), exec i s = .next t →
    ((flagsWritten i).s = false → t.flags.s = s.flags.s) ∧ ((flagsWritten i).z = false → t.flags.z = s.flags.z) ∧
    ((flagsWritten i).ac = false → t.flags.ac = s.flags.ac) ∧ ((flagsWritten i).p = false → t.flags.p = s.flags.p) ∧
    ((flagsWritten i).cy = false → t.flags.cy = s.flags.cy)

/-- R81, R83: every byte of memory outside those an instruction stores to reads as before, in the main memory and in that of the
stack, and no write changes a byte of ROM or of absent memory (R74), where no other bus master takes part. That no write changes
a byte of a device is the model's choice (log entry 9): R74 leaves a device to the platform; and so is that an output changes
none (log entry 8). -/
def Obligations.MemoryFrame : Prop :=
  ∀ (i : Instr) (s t : State), s.inv = true → s.soleMaster → exec i s = .next t →
    ∀ (k : Kind) (a : Word),
      ((∀ j b, (j, b) ∈ storesTo i s → s.apart j = s.apart k → b ≠ a) ∨ s.writable k a = false) →
      t.byteAt k a = s.byteAt k a

/-- R36, R37, R39, R64: only EI and DI change INTE, only EI sets int_inhibit, only HLT enters the halt state, only OUT outputs. That
no instruction changes the platform's parameters (R9) or the host's coming events (R305) is the model's choice (log entries 5 and
6, and 8 for OUT: R64 lets an output change what the host does later). -/
def Obligations.ControlFrame : Prop :=
  ∀ (i : Instr) (s t : State), exec i s = .next t →
    (i ≠ .ei → i ≠ .di → t.inte = s.inte) ∧ (i ≠ .ei → t.intInhibit = s.intInhibit) ∧
    (i ≠ .hlt → t.halted = s.halted) ∧ ((∀ port, i ≠ .outPort port) → t.ioOut = s.ioOut) ∧
    t.cfg = s.cfg ∧ t.host.events = s.host.events

/-- R81, R71, R69, R63: after its own bytes an instruction performs exactly the byte accesses of the table, in that order, each
with its status byte and its address, and HLT a halt-acknowledge cycle. That DAD's two internal machine cycles (R68, R184) are
left out of the record, and that the halt acknowledge has no address, is the model's choice (log entry 17). -/
def Obligations.AccessOrder : Prop :=
  ∀ (i : Instr) (s t : State), exec i s = .next t →
    t.bus.map BusCycle.shape = s.bus.map BusCycle.shape ++ accesses i s

/-- R64: every step adds to the outputs only at their end. That it leaves the platform's parameters of R9 as they are is the
model's choice (log entry 5). -/
def Obligations.StepKeepsPlatform : Prop :=
  ∀ s t : State, step s = .next t → t.cfg = s.cfg ∧ ∃ more, t.ioOut = s.ioOut ++ more

/-! ### Interrupts, halt and wait -/

/-- R306, R307, R309, R312: a request with a supplied RST at a boundary with INTE 1 and int_inhibit 0, halted or not, is accepted:
PC goes to 8n and is pushed, INTE and halted are cleared, the registers and flags are kept, in 11 states, from every state with
memory in canonical form where no other bus master takes part, the two stack bytes are writable and the policy has that RST. -/
def Obligations.RestartEntry : Prop :=
  ∀ (s : State) (n : BitVec 3), s.inv = true → s.soleMaster → s.calm →
    s.intInhibit = false → s.inte = true → s.event.int = true →
    s.event.ack1.toNat = 0xC7 + 8 * n.toNat → s.cfg.intPolicy.contains s.event.ack1 = true →
    s.writable .stack (s.sp - 1#16) = true → s.writable .stack (s.sp - 2#16) = true →
    ∃ t, step s = .next t ∧ t.pc.toNat = 8 * n.toNat ∧ t.sp = s.sp - 2#16 ∧
      (t.byteAt .stack (s.sp - 1#16)).toNat = s.pc.toNat / 256 ∧ (t.byteAt .stack (s.sp - 2#16)).toNat = s.pc.toNat % 256 ∧
      t.inte = false ∧ t.halted = false ∧ t.regs = s.regs ∧ t.flags = s.flags ∧
      t.clock = s.clock + s.event.stall.getD 0 + 11 ∧
      t.bus.map BusCycle.shape = [(if s.halted then 0x2B#8 else 0x23#8, some s.pc),
        (0x04#8, some (s.sp - 1#16)), (0x04#8, some (s.sp - 2#16))]

/-- R306, R307, R308, R310, R312: a request with a supplied CALL under the conditions of RestartEntry is accepted: PC is pushed and
goes to the address of the second and third supplied bytes, INTE and halted are cleared, the registers and flags are kept; three
acknowledge cycles with PC not incremented, 17 states. That out of the halt state only the first of them has the status 2BH, and
the two of R308 have 23H, is read from the spec by inference (log entry 21). -/
def Obligations.CallEntry : Prop :=
  ∀ s : State, s.inv = true → s.soleMaster → s.calm →
    s.intInhibit = false → s.inte = true → s.event.int = true →
    s.event.ack1 = 0xCD#8 → s.cfg.intPolicy.contains 0xCD#8 = true →
    s.writable .stack (s.sp - 1#16) = true → s.writable .stack (s.sp - 2#16) = true →
    ∃ t, step s = .next t ∧ t.pc.toNat = 256 * s.event.ack3.toNat + s.event.ack2.toNat ∧ t.sp = s.sp - 2#16 ∧
      (t.byteAt .stack (s.sp - 1#16)).toNat = s.pc.toNat / 256 ∧ (t.byteAt .stack (s.sp - 2#16)).toNat = s.pc.toNat % 256 ∧
      t.inte = false ∧ t.halted = false ∧ t.regs = s.regs ∧ t.flags = s.flags ∧
      t.clock = s.clock + s.event.stall.getD 0 + 17 ∧
      t.bus.map BusCycle.shape = [(if s.halted then 0x2B#8 else 0x23#8, some s.pc), (0x23#8, some s.pc), (0x23#8, some s.pc),
        (0x04#8, some (s.sp - 1#16)), (0x04#8, some (s.sp - 2#16))]

/-- R311: an accepted request whose supplied opcode is outside the policy is refused. -/
def Obligations.OtherSuppliedRefused : Prop :=
  ∀ s : State, s.calm → s.intInhibit = false → s.inte = true → s.event.int = true →
    s.cfg.intPolicy.contains s.event.ack1 = false → step s = .refused (.suppliedNotAdmitted s.event.ack1)

/-- R302, R306, R352: while INTE is 0, and at the boundary right after EI, the level of INT and the bytes a device would supply
make no difference to the step. -/
def Obligations.MaskedRequestUnseen : Prop :=
  ∀ (s : State) (ev : HostEvent) (rest : List HostEvent) (int : Bool) (b1 b2 b3 : Byte),
    s.host.events = ev :: rest → s.inte = false ∨ s.intInhibit = true →
    ev.resetPeriods = 0 →
    step { s with host := { s.host with events := { ev with int := int, ack1 := b1, ack2 := b2, ack3 := b3 } :: rest } } = step s

/-- R325, R306, R37, R320: in the halt state a step at which no interrupt is accepted clears int_inhibit and changes nothing else
but the host's script and the clock, where no other bus master takes part. That the clock counts the host's stall and nothing for
the halt step itself is the model's choice (log entry 16). -/
def Obligations.HaltStutters : Prop :=
  ∀ s : State, s.calm → s.unasked → s.halted = true → s.soleMaster →
    step s = .next { s with
      intInhibit := false, bus := [], clock := s.clock + s.event.stall.getD 0
      host := { s.host with events := s.host.events.tail } }

/-- R337: once a run has ended it stays ended: with no RESET to come, a host that lets the bus go and no other bus master, every
state it can reach is halted with INTE 0, with the same registers, flags, PC, SP, memories and outputs, and goes on. -/
def Obligations.EndedRunStaysEnded : Prop :=
  ∀ s t : State, s.runEnded → s.soleMaster →
    (∀ ev ∈ s.host.events, ev.resetPeriods = 0 ∧ ev.stall.isSome = true) → Reaches s t →
    t.runEnded ∧ t.regs = s.regs ∧ t.flags = s.flags ∧ t.pc = s.pc ∧ t.sp = s.sp ∧ t.mem = s.mem ∧
    t.stackMem = s.stackMem ∧ t.ioOut = s.ioOut ∧ t.goesOn

/-- R326, R327, R359: WAIT and HOLD periods change no result: a step at which the host stalls for some clock periods is the step
without the stall, with the clock that much later. That the periods of a step are one number of the host's event is the model's
form (log entry 15). -/
def Obligations.StallOnlyDelays : Prop :=
  ∀ (s t : State) (ev : HostEvent) (rest : List HostEvent) (n : Nat),
    s.host.events = { ev with stall := some 0 } :: rest → ev.resetPeriods = 0 → step s = .next t →
    step { s with host := { s.host with events := { ev with stall := some n } :: rest } }
      = .next { t with clock := t.clock + n }
end

