-- ==== Sys2Proof/Laws/Memory.lean ====
section
/-! SUPPORT. The laws of the memory list: reading after a write, and the canonical form. -/

namespace Sys2Proof.Machine

theorem Memory.get_nil (a : Nat) : Memory.get [] a = Memory.unlisted := rfl

theorem Memory.wfFrom_cons {lo k : Nat} {v : Byte} {m : Memory} :
    Memory.wfFrom lo ((k, v) :: m) = true ↔
      lo ≤ k ∧ k < 65536 ∧ v ≠ Memory.unlisted ∧ Memory.wfFrom (k + 1) m = true := by
  simp [Memory.wfFrom, and_assoc]

theorem Memory.wfFrom_mono {lo lo' : Nat} {m : Memory} (h : Memory.wfFrom lo m = true) (hl : lo' ≤ lo) :
    Memory.wfFrom lo' m = true := by
  cases m with
  | nil => rfl
  | cons e m =>
    obtain ⟨k, v⟩ := e
    rw [Memory.wfFrom_cons] at h ⊢
    exact ⟨le_trans hl h.1, h.2⟩

/-- Below its least address a canonical memory reads as unlisted. -/
theorem Memory.get_below {m : Memory} {lo a : Nat} (h : Memory.wfFrom lo m = true) (ha : a < lo) :
    m.get a = Memory.unlisted := by
  induction m generalizing lo with
  | nil => rfl
  | cons e m ih =>
    obtain ⟨k, v⟩ := e
    rw [Memory.wfFrom_cons] at h
    have : a ≠ k := by omega
    simp only [Memory.get, if_neg this]
    exact ih h.2.2.2 (by omega)

theorem Memory.wfFrom_put {m : Memory} {lo a : Nat} {v : Byte} (h : Memory.wfFrom (a + 1) m = true) (hl : lo ≤ a)
    (ha : a < 65536) : Memory.wfFrom lo (Memory.put a v m) = true := by
  unfold Memory.put
  split
  · exact Memory.wfFrom_mono h (by omega)
  · next hv => exact Memory.wfFrom_cons.2 ⟨hl, ha, hv, h⟩

/-- A write keeps the canonical form. -/
theorem Memory.wfFrom_set {m : Memory} {lo a : Nat} {v : Byte} (h : Memory.wfFrom lo m = true) (hl : lo ≤ a)
    (ha : a < 65536) : Memory.wfFrom lo (m.set a v) = true := by
  induction m generalizing lo with
  | nil => exact Memory.wfFrom_put rfl hl ha
  | cons e m ih =>
    obtain ⟨k, u⟩ := e
    have hc := Memory.wfFrom_cons.1 h
    simp only [Memory.set]
    split
    · exact Memory.wfFrom_put (Memory.wfFrom_cons.2 ⟨by omega, hc.2⟩) hl ha
    · split
      · next hk => exact Memory.wfFrom_put (hk ▸ hc.2.2.2) hl ha
      · exact Memory.wfFrom_cons.2 ⟨hc.1, hc.2.1, hc.2.2.1, ih hc.2.2.2 (by omega)⟩

theorem Memory.wf_set {m : Memory} {a : Nat} {v : Byte} (h : m.wf = true) (ha : a < 65536) :
    (m.set a v).wf = true := Memory.wfFrom_set h (Nat.zero_le a) ha

theorem Memory.get_put {m : Memory} {a : Nat} {v : Byte} (h : Memory.wfFrom (a + 1) m = true) (b : Nat) :
    (Memory.put a v m).get b = if b = a then v else m.get b := by
  unfold Memory.put
  split
  · next hv =>
    split
    · next hb => rw [hb, Memory.get_below h (Nat.lt_succ_self a), hv]
    · rfl
  · rfl

/-- Reading after a write: the written byte at its address, the old byte everywhere else. -/
theorem Memory.get_set {m : Memory} {lo : Nat} (h : Memory.wfFrom lo m = true) (a : Nat) (v : Byte) (b : Nat) :
    (m.set a v).get b = if b = a then v else m.get b := by
  induction m generalizing lo with
  | nil => exact Memory.get_put rfl b
  | cons e m ih =>
    obtain ⟨k, u⟩ := e
    have hc := Memory.wfFrom_cons.1 h
    simp only [Memory.set]
    split
    · next hk => exact Memory.get_put (Memory.wfFrom_cons.2 ⟨by omega, hc.2⟩) b
    · split
      · next hk =>
        subst hk
        rw [Memory.get_put hc.2.2.2]
        by_cases hb : b = a <;> simp [Memory.get, hb]
      · next hk =>
        simp only [Memory.get, ih hc.2.2.2]
        by_cases hb : b = k <;> simp [hb, Ne.symm hk]

end Sys2Proof.Machine
end

