-- ==== Sys2Proof/Laws/State.lean ====
section
/-! SUPPORT. One lemma per field per update of the state. The updates that are record updates first, all true by rfl; then those
that go through memory. -/

namespace Sys2Proof.Machine

@[simp] theorem State.setReg_regs (r : Reg) (v : Byte) (s : State) : (s.setReg r v).regs = s.regs.set r v := rfl
@[simp] theorem State.setReg_flags (r : Reg) (v : Byte) (s : State) : (s.setReg r v).flags = s.flags := rfl
@[simp] theorem State.setReg_sp (r : Reg) (v : Byte) (s : State) : (s.setReg r v).sp = s.sp := rfl
@[simp] theorem State.setReg_pc (r : Reg) (v : Byte) (s : State) : (s.setReg r v).pc = s.pc := rfl
@[simp] theorem State.setReg_inte (r : Reg) (v : Byte) (s : State) : (s.setReg r v).inte = s.inte := rfl
@[simp] theorem State.setReg_intInhibit (r : Reg) (v : Byte) (s : State) : (s.setReg r v).intInhibit = s.intInhibit := rfl
@[simp] theorem State.setReg_halted (r : Reg) (v : Byte) (s : State) : (s.setReg r v).halted = s.halted := rfl
@[simp] theorem State.setReg_mem (r : Reg) (v : Byte) (s : State) : (s.setReg r v).mem = s.mem := rfl
@[simp] theorem State.setReg_stackMem (r : Reg) (v : Byte) (s : State) : (s.setReg r v).stackMem = s.stackMem := rfl
@[simp] theorem State.setReg_ioOut (r : Reg) (v : Byte) (s : State) : (s.setReg r v).ioOut = s.ioOut := rfl
@[simp] theorem State.setReg_bus (r : Reg) (v : Byte) (s : State) : (s.setReg r v).bus = s.bus := rfl
@[simp] theorem State.setReg_clock (r : Reg) (v : Byte) (s : State) : (s.setReg r v).clock = s.clock := rfl
@[simp] theorem State.setReg_draws (r : Reg) (v : Byte) (s : State) : (s.setReg r v).draws = s.draws := rfl
@[simp] theorem State.setReg_host (r : Reg) (v : Byte) (s : State) : (s.setReg r v).host = s.host := rfl
@[simp] theorem State.setReg_cfg (r : Reg) (v : Byte) (s : State) : (s.setReg r v).cfg = s.cfg := rfl

@[simp] theorem State.record_regs (c : BusCycle) (s : State) : (s.record c).regs = s.regs := rfl
@[simp] theorem State.record_flags (c : BusCycle) (s : State) : (s.record c).flags = s.flags := rfl
@[simp] theorem State.record_sp (c : BusCycle) (s : State) : (s.record c).sp = s.sp := rfl
@[simp] theorem State.record_pc (c : BusCycle) (s : State) : (s.record c).pc = s.pc := rfl
@[simp] theorem State.record_inte (c : BusCycle) (s : State) : (s.record c).inte = s.inte := rfl
@[simp] theorem State.record_intInhibit (c : BusCycle) (s : State) : (s.record c).intInhibit = s.intInhibit := rfl
@[simp] theorem State.record_halted (c : BusCycle) (s : State) : (s.record c).halted = s.halted := rfl
@[simp] theorem State.record_mem (c : BusCycle) (s : State) : (s.record c).mem = s.mem := rfl
@[simp] theorem State.record_stackMem (c : BusCycle) (s : State) : (s.record c).stackMem = s.stackMem := rfl
@[simp] theorem State.record_ioOut (c : BusCycle) (s : State) : (s.record c).ioOut = s.ioOut := rfl
@[simp] theorem State.record_bus (c : BusCycle) (s : State) : (s.record c).bus = s.bus ++ [c] := rfl
@[simp] theorem State.record_clock (c : BusCycle) (s : State) : (s.record c).clock = s.clock := rfl
@[simp] theorem State.record_draws (c : BusCycle) (s : State) : (s.record c).draws = s.draws := rfl
@[simp] theorem State.record_host (c : BusCycle) (s : State) : (s.record c).host = s.host := rfl
@[simp] theorem State.record_cfg (c : BusCycle) (s : State) : (s.record c).cfg = s.cfg := rfl

@[simp] theorem State.tick_regs (n : Nat) (s : State) : (s.tick n).regs = s.regs := rfl
@[simp] theorem State.tick_flags (n : Nat) (s : State) : (s.tick n).flags = s.flags := rfl
@[simp] theorem State.tick_sp (n : Nat) (s : State) : (s.tick n).sp = s.sp := rfl
@[simp] theorem State.tick_pc (n : Nat) (s : State) : (s.tick n).pc = s.pc := rfl
@[simp] theorem State.tick_inte (n : Nat) (s : State) : (s.tick n).inte = s.inte := rfl
@[simp] theorem State.tick_intInhibit (n : Nat) (s : State) : (s.tick n).intInhibit = s.intInhibit := rfl
@[simp] theorem State.tick_halted (n : Nat) (s : State) : (s.tick n).halted = s.halted := rfl
@[simp] theorem State.tick_mem (n : Nat) (s : State) : (s.tick n).mem = s.mem := rfl
@[simp] theorem State.tick_stackMem (n : Nat) (s : State) : (s.tick n).stackMem = s.stackMem := rfl
@[simp] theorem State.tick_ioOut (n : Nat) (s : State) : (s.tick n).ioOut = s.ioOut := rfl
@[simp] theorem State.tick_bus (n : Nat) (s : State) : (s.tick n).bus = s.bus := rfl
@[simp] theorem State.tick_clock (n : Nat) (s : State) : (s.tick n).clock = s.clock + n := rfl
@[simp] theorem State.tick_draws (n : Nat) (s : State) : (s.tick n).draws = s.draws := rfl
@[simp] theorem State.tick_host (n : Nat) (s : State) : (s.tick n).host = s.host := rfl
@[simp] theorem State.tick_cfg (n : Nat) (s : State) : (s.tick n).cfg = s.cfg := rfl

@[simp] theorem State.goto_regs (a : Word) (s : State) : (s.goto a).regs = s.regs := rfl
@[simp] theorem State.goto_flags (a : Word) (s : State) : (s.goto a).flags = s.flags := rfl
@[simp] theorem State.goto_sp (a : Word) (s : State) : (s.goto a).sp = s.sp := rfl
@[simp] theorem State.goto_pc (a : Word) (s : State) : (s.goto a).pc = a := rfl
@[simp] theorem State.goto_inte (a : Word) (s : State) : (s.goto a).inte = s.inte := rfl
@[simp] theorem State.goto_intInhibit (a : Word) (s : State) : (s.goto a).intInhibit = s.intInhibit := rfl
@[simp] theorem State.goto_halted (a : Word) (s : State) : (s.goto a).halted = s.halted := rfl
@[simp] theorem State.goto_mem (a : Word) (s : State) : (s.goto a).mem = s.mem := rfl
@[simp] theorem State.goto_stackMem (a : Word) (s : State) : (s.goto a).stackMem = s.stackMem := rfl
@[simp] theorem State.goto_ioOut (a : Word) (s : State) : (s.goto a).ioOut = s.ioOut := rfl
@[simp] theorem State.goto_bus (a : Word) (s : State) : (s.goto a).bus = s.bus := rfl
@[simp] theorem State.goto_clock (a : Word) (s : State) : (s.goto a).clock = s.clock := rfl
@[simp] theorem State.goto_draws (a : Word) (s : State) : (s.goto a).draws = s.draws := rfl
@[simp] theorem State.goto_host (a : Word) (s : State) : (s.goto a).host = s.host := rfl
@[simp] theorem State.goto_cfg (a : Word) (s : State) : (s.goto a).cfg = s.cfg := rfl

@[simp] theorem State.accumulate_regs (o : AluOut) (s : State) : (s.accumulate o).regs = { s.regs with a := o.v } := rfl
@[simp] theorem State.accumulate_flags (o : AluOut) (s : State) : (s.accumulate o).flags = s.flags.ofAlu o := rfl
@[simp] theorem State.accumulate_sp (o : AluOut) (s : State) : (s.accumulate o).sp = s.sp := rfl
@[simp] theorem State.accumulate_pc (o : AluOut) (s : State) : (s.accumulate o).pc = s.pc := rfl
@[simp] theorem State.accumulate_inte (o : AluOut) (s : State) : (s.accumulate o).inte = s.inte := rfl
@[simp] theorem State.accumulate_intInhibit (o : AluOut) (s : State) : (s.accumulate o).intInhibit = s.intInhibit := rfl
@[simp] theorem State.accumulate_halted (o : AluOut) (s : State) : (s.accumulate o).halted = s.halted := rfl
@[simp] theorem State.accumulate_mem (o : AluOut) (s : State) : (s.accumulate o).mem = s.mem := rfl
@[simp] theorem State.accumulate_stackMem (o : AluOut) (s : State) : (s.accumulate o).stackMem = s.stackMem := rfl
@[simp] theorem State.accumulate_ioOut (o : AluOut) (s : State) : (s.accumulate o).ioOut = s.ioOut := rfl
@[simp] theorem State.accumulate_bus (o : AluOut) (s : State) : (s.accumulate o).bus = s.bus := rfl
@[simp] theorem State.accumulate_clock (o : AluOut) (s : State) : (s.accumulate o).clock = s.clock := rfl
@[simp] theorem State.accumulate_draws (o : AluOut) (s : State) : (s.accumulate o).draws = s.draws := rfl
@[simp] theorem State.accumulate_host (o : AluOut) (s : State) : (s.accumulate o).host = s.host := rfl
@[simp] theorem State.accumulate_cfg (o : AluOut) (s : State) : (s.accumulate o).cfg = s.cfg := rfl

@[simp] theorem State.compare_regs (o : AluOut) (s : State) : (s.compare o).regs = s.regs := rfl
@[simp] theorem State.compare_flags (o : AluOut) (s : State) : (s.compare o).flags = s.flags.ofAlu o := rfl
@[simp] theorem State.compare_sp (o : AluOut) (s : State) : (s.compare o).sp = s.sp := rfl
@[simp] theorem State.compare_pc (o : AluOut) (s : State) : (s.compare o).pc = s.pc := rfl
@[simp] theorem State.compare_inte (o : AluOut) (s : State) : (s.compare o).inte = s.inte := rfl
@[simp] theorem State.compare_intInhibit (o : AluOut) (s : State) : (s.compare o).intInhibit = s.intInhibit := rfl
@[simp] theorem State.compare_halted (o : AluOut) (s : State) : (s.compare o).halted = s.halted := rfl
@[simp] theorem State.compare_mem (o : AluOut) (s : State) : (s.compare o).mem = s.mem := rfl
@[simp] theorem State.compare_stackMem (o : AluOut) (s : State) : (s.compare o).stackMem = s.stackMem := rfl
@[simp] theorem State.compare_ioOut (o : AluOut) (s : State) : (s.compare o).ioOut = s.ioOut := rfl
@[simp] theorem State.compare_bus (o : AluOut) (s : State) : (s.compare o).bus = s.bus := rfl
@[simp] theorem State.compare_clock (o : AluOut) (s : State) : (s.compare o).clock = s.clock := rfl
@[simp] theorem State.compare_draws (o : AluOut) (s : State) : (s.compare o).draws = s.draws := rfl
@[simp] theorem State.compare_host (o : AluOut) (s : State) : (s.compare o).host = s.host := rfl
@[simp] theorem State.compare_cfg (o : AluOut) (s : State) : (s.compare o).cfg = s.cfg := rfl

@[simp] theorem State.logic_regs (v : Byte) (ac : Bool) (s : State) : (s.logic v ac).regs = { s.regs with a := v } := rfl
@[simp] theorem State.logic_flags (v : Byte) (ac : Bool) (s : State) : (s.logic v ac).flags = s.flags.ofLogic v ac := rfl
@[simp] theorem State.logic_sp (v : Byte) (ac : Bool) (s : State) : (s.logic v ac).sp = s.sp := rfl
@[simp] theorem State.logic_pc (v : Byte) (ac : Bool) (s : State) : (s.logic v ac).pc = s.pc := rfl
@[simp] theorem State.logic_inte (v : Byte) (ac : Bool) (s : State) : (s.logic v ac).inte = s.inte := rfl
@[simp] theorem State.logic_intInhibit (v : Byte) (ac : Bool) (s : State) : (s.logic v ac).intInhibit = s.intInhibit := rfl
@[simp] theorem State.logic_halted (v : Byte) (ac : Bool) (s : State) : (s.logic v ac).halted = s.halted := rfl
@[simp] theorem State.logic_mem (v : Byte) (ac : Bool) (s : State) : (s.logic v ac).mem = s.mem := rfl
@[simp] theorem State.logic_stackMem (v : Byte) (ac : Bool) (s : State) : (s.logic v ac).stackMem = s.stackMem := rfl
@[simp] theorem State.logic_ioOut (v : Byte) (ac : Bool) (s : State) : (s.logic v ac).ioOut = s.ioOut := rfl
@[simp] theorem State.logic_bus (v : Byte) (ac : Bool) (s : State) : (s.logic v ac).bus = s.bus := rfl
@[simp] theorem State.logic_clock (v : Byte) (ac : Bool) (s : State) : (s.logic v ac).clock = s.clock := rfl
@[simp] theorem State.logic_draws (v : Byte) (ac : Bool) (s : State) : (s.logic v ac).draws = s.draws := rfl
@[simp] theorem State.logic_host (v : Byte) (ac : Bool) (s : State) : (s.logic v ac).host = s.host := rfl
@[simp] theorem State.logic_cfg (v : Byte) (ac : Bool) (s : State) : (s.logic v ac).cfg = s.cfg := rfl

@[simp] theorem State.logicAnd_regs (v : Byte) (s : State) : (s.logicAnd v).regs = { s.regs with a := s.regs.a &&& v } := rfl
@[simp] theorem State.logicAnd_flags (v : Byte) (s : State) : (s.logicAnd v).flags = s.flags.ofLogic (s.regs.a &&& v) (andAc s.cfg.andAc s.regs.a v) := rfl
@[simp] theorem State.logicAnd_sp (v : Byte) (s : State) : (s.logicAnd v).sp = s.sp := rfl
@[simp] theorem State.logicAnd_pc (v : Byte) (s : State) : (s.logicAnd v).pc = s.pc := rfl
@[simp] theorem State.logicAnd_inte (v : Byte) (s : State) : (s.logicAnd v).inte = s.inte := rfl
@[simp] theorem State.logicAnd_intInhibit (v : Byte) (s : State) : (s.logicAnd v).intInhibit = s.intInhibit := rfl
@[simp] theorem State.logicAnd_halted (v : Byte) (s : State) : (s.logicAnd v).halted = s.halted := rfl
@[simp] theorem State.logicAnd_mem (v : Byte) (s : State) : (s.logicAnd v).mem = s.mem := rfl
@[simp] theorem State.logicAnd_stackMem (v : Byte) (s : State) : (s.logicAnd v).stackMem = s.stackMem := rfl
@[simp] theorem State.logicAnd_ioOut (v : Byte) (s : State) : (s.logicAnd v).ioOut = s.ioOut := rfl
@[simp] theorem State.logicAnd_bus (v : Byte) (s : State) : (s.logicAnd v).bus = s.bus := rfl
@[simp] theorem State.logicAnd_clock (v : Byte) (s : State) : (s.logicAnd v).clock = s.clock := rfl
@[simp] theorem State.logicAnd_draws (v : Byte) (s : State) : (s.logicAnd v).draws = s.draws := rfl
@[simp] theorem State.logicAnd_host (v : Byte) (s : State) : (s.logicAnd v).host = s.host := rfl
@[simp] theorem State.logicAnd_cfg (v : Byte) (s : State) : (s.logicAnd v).cfg = s.cfg := rfl

@[simp] theorem State.rotated_regs (v : Byte) (cy : Bool) (s : State) : (s.rotated v cy).regs = { s.regs with a := v } := rfl
@[simp] theorem State.rotated_flags (v : Byte) (cy : Bool) (s : State) : (s.rotated v cy).flags = { s.flags with cy := cy } := rfl
@[simp] theorem State.rotated_sp (v : Byte) (cy : Bool) (s : State) : (s.rotated v cy).sp = s.sp := rfl
@[simp] theorem State.rotated_pc (v : Byte) (cy : Bool) (s : State) : (s.rotated v cy).pc = s.pc := rfl
@[simp] theorem State.rotated_inte (v : Byte) (cy : Bool) (s : State) : (s.rotated v cy).inte = s.inte := rfl
@[simp] theorem State.rotated_intInhibit (v : Byte) (cy : Bool) (s : State) : (s.rotated v cy).intInhibit = s.intInhibit := rfl
@[simp] theorem State.rotated_halted (v : Byte) (cy : Bool) (s : State) : (s.rotated v cy).halted = s.halted := rfl
@[simp] theorem State.rotated_mem (v : Byte) (cy : Bool) (s : State) : (s.rotated v cy).mem = s.mem := rfl
@[simp] theorem State.rotated_stackMem (v : Byte) (cy : Bool) (s : State) : (s.rotated v cy).stackMem = s.stackMem := rfl
@[simp] theorem State.rotated_ioOut (v : Byte) (cy : Bool) (s : State) : (s.rotated v cy).ioOut = s.ioOut := rfl
@[simp] theorem State.rotated_bus (v : Byte) (cy : Bool) (s : State) : (s.rotated v cy).bus = s.bus := rfl
@[simp] theorem State.rotated_clock (v : Byte) (cy : Bool) (s : State) : (s.rotated v cy).clock = s.clock := rfl
@[simp] theorem State.rotated_draws (v : Byte) (cy : Bool) (s : State) : (s.rotated v cy).draws = s.draws := rfl
@[simp] theorem State.rotated_host (v : Byte) (cy : Bool) (s : State) : (s.rotated v cy).host = s.host := rfl
@[simp] theorem State.rotated_cfg (v : Byte) (cy : Bool) (s : State) : (s.rotated v cy).cfg = s.cfg := rfl

@[simp] theorem State.beginInterrupt_regs (s : State) : (s.beginInterrupt).regs = s.regs := rfl
@[simp] theorem State.beginInterrupt_flags (s : State) : (s.beginInterrupt).flags = s.flags := rfl
@[simp] theorem State.beginInterrupt_sp (s : State) : (s.beginInterrupt).sp = s.sp := rfl
@[simp] theorem State.beginInterrupt_pc (s : State) : (s.beginInterrupt).pc = s.pc := rfl
@[simp] theorem State.beginInterrupt_inte (s : State) : (s.beginInterrupt).inte = false := rfl
@[simp] theorem State.beginInterrupt_intInhibit (s : State) : (s.beginInterrupt).intInhibit = s.intInhibit := rfl
@[simp] theorem State.beginInterrupt_halted (s : State) : (s.beginInterrupt).halted = false := rfl
@[simp] theorem State.beginInterrupt_mem (s : State) : (s.beginInterrupt).mem = s.mem := rfl
@[simp] theorem State.beginInterrupt_stackMem (s : State) : (s.beginInterrupt).stackMem = s.stackMem := rfl
@[simp] theorem State.beginInterrupt_ioOut (s : State) : (s.beginInterrupt).ioOut = s.ioOut := rfl
@[simp] theorem State.beginInterrupt_bus (s : State) : (s.beginInterrupt).bus = s.bus := rfl
@[simp] theorem State.beginInterrupt_clock (s : State) : (s.beginInterrupt).clock = s.clock := rfl
@[simp] theorem State.beginInterrupt_draws (s : State) : (s.beginInterrupt).draws = s.draws := rfl
@[simp] theorem State.beginInterrupt_host (s : State) : (s.beginInterrupt).host = s.host := rfl
@[simp] theorem State.beginInterrupt_cfg (s : State) : (s.beginInterrupt).cfg = s.cfg := rfl

@[simp] theorem State.setPair_regs (p : Pair) (w : Word) (s : State) : (s.setPair p w).regs = (match p with | .bc => s.regs.setBc w | .de => s.regs.setDe w | .hl => s.regs.setHl w | .sp => s.regs) := by cases p <;> rfl
@[simp] theorem State.setPair_flags (p : Pair) (w : Word) (s : State) : (s.setPair p w).flags = s.flags := by cases p <;> rfl
@[simp] theorem State.setPair_sp (p : Pair) (w : Word) (s : State) : (s.setPair p w).sp = (match p with | .sp => w | _ => s.sp) := by cases p <;> rfl
@[simp] theorem State.setPair_pc (p : Pair) (w : Word) (s : State) : (s.setPair p w).pc = s.pc := by cases p <;> rfl
@[simp] theorem State.setPair_inte (p : Pair) (w : Word) (s : State) : (s.setPair p w).inte = s.inte := by cases p <;> rfl
@[simp] theorem State.setPair_intInhibit (p : Pair) (w : Word) (s : State) : (s.setPair p w).intInhibit = s.intInhibit := by cases p <;> rfl
@[simp] theorem State.setPair_halted (p : Pair) (w : Word) (s : State) : (s.setPair p w).halted = s.halted := by cases p <;> rfl
@[simp] theorem State.setPair_mem (p : Pair) (w : Word) (s : State) : (s.setPair p w).mem = s.mem := by cases p <;> rfl
@[simp] theorem State.setPair_stackMem (p : Pair) (w : Word) (s : State) : (s.setPair p w).stackMem = s.stackMem := by cases p <;> rfl
@[simp] theorem State.setPair_ioOut (p : Pair) (w : Word) (s : State) : (s.setPair p w).ioOut = s.ioOut := by cases p <;> rfl
@[simp] theorem State.setPair_bus (p : Pair) (w : Word) (s : State) : (s.setPair p w).bus = s.bus := by cases p <;> rfl
@[simp] theorem State.setPair_clock (p : Pair) (w : Word) (s : State) : (s.setPair p w).clock = s.clock := by cases p <;> rfl
@[simp] theorem State.setPair_draws (p : Pair) (w : Word) (s : State) : (s.setPair p w).draws = s.draws := by cases p <;> rfl
@[simp] theorem State.setPair_host (p : Pair) (w : Word) (s : State) : (s.setPair p w).host = s.host := by cases p <;> rfl
@[simp] theorem State.setPair_cfg (p : Pair) (w : Word) (s : State) : (s.setPair p w).cfg = s.cfg := by cases p <;> rfl

@[simp] theorem State.store_regs (k : Kind) (a : Word) (v : Byte) (s : State) : (s.store k a v).regs = s.regs := by
  unfold State.store; split <;> [rfl; split <;> rfl]
@[simp] theorem State.store_flags (k : Kind) (a : Word) (v : Byte) (s : State) : (s.store k a v).flags = s.flags := by
  unfold State.store; split <;> [rfl; split <;> rfl]
@[simp] theorem State.store_sp (k : Kind) (a : Word) (v : Byte) (s : State) : (s.store k a v).sp = s.sp := by
  unfold State.store; split <;> [rfl; split <;> rfl]
@[simp] theorem State.store_pc (k : Kind) (a : Word) (v : Byte) (s : State) : (s.store k a v).pc = s.pc := by
  unfold State.store; split <;> [rfl; split <;> rfl]
@[simp] theorem State.store_inte (k : Kind) (a : Word) (v : Byte) (s : State) : (s.store k a v).inte = s.inte := by
  unfold State.store; split <;> [rfl; split <;> rfl]
@[simp] theorem State.store_intInhibit (k : Kind) (a : Word) (v : Byte) (s : State) : (s.store k a v).intInhibit = s.intInhibit := by
  unfold State.store; split <;> [rfl; split <;> rfl]
@[simp] theorem State.store_halted (k : Kind) (a : Word) (v : Byte) (s : State) : (s.store k a v).halted = s.halted := by
  unfold State.store; split <;> [rfl; split <;> rfl]
@[simp] theorem State.store_ioOut (k : Kind) (a : Word) (v : Byte) (s : State) : (s.store k a v).ioOut = s.ioOut := by
  unfold State.store; split <;> [rfl; split <;> rfl]
@[simp] theorem State.store_bus (k : Kind) (a : Word) (v : Byte) (s : State) : (s.store k a v).bus = s.bus := by
  unfold State.store; split <;> [rfl; split <;> rfl]
@[simp] theorem State.store_clock (k : Kind) (a : Word) (v : Byte) (s : State) : (s.store k a v).clock = s.clock := by
  unfold State.store; split <;> [rfl; split <;> rfl]
@[simp] theorem State.store_draws (k : Kind) (a : Word) (v : Byte) (s : State) : (s.store k a v).draws = s.draws := by
  unfold State.store; split <;> [rfl; split <;> rfl]
@[simp] theorem State.store_host (k : Kind) (a : Word) (v : Byte) (s : State) : (s.store k a v).host = s.host := by
  unfold State.store; split <;> [rfl; split <;> rfl]
@[simp] theorem State.store_cfg (k : Kind) (a : Word) (v : Byte) (s : State) : (s.store k a v).cfg = s.cfg := by
  unfold State.store; split <;> [rfl; split <;> rfl]

@[simp] theorem State.storeAll_regs (ws : List (Word × Byte)) (s : State) : (s.storeAll ws).regs = s.regs := by
  induction ws generalizing s with
  | nil => rfl
  | cons w ws ih => exact (ih _).trans (State.store_regs _ _ _ _)
@[simp] theorem State.storeAll_flags (ws : List (Word × Byte)) (s : State) : (s.storeAll ws).flags = s.flags := by
  induction ws generalizing s with
  | nil => rfl
  | cons w ws ih => exact (ih _).trans (State.store_flags _ _ _ _)
@[simp] theorem State.storeAll_sp (ws : List (Word × Byte)) (s : State) : (s.storeAll ws).sp = s.sp := by
  induction ws generalizing s with
  | nil => rfl
  | cons w ws ih => exact (ih _).trans (State.store_sp _ _ _ _)
@[simp] theorem State.storeAll_pc (ws : List (Word × Byte)) (s : State) : (s.storeAll ws).pc = s.pc := by
  induction ws generalizing s with
  | nil => rfl
  | cons w ws ih => exact (ih _).trans (State.store_pc _ _ _ _)
@[simp] theorem State.storeAll_inte (ws : List (Word × Byte)) (s : State) : (s.storeAll ws).inte = s.inte := by
  induction ws generalizing s with
  | nil => rfl
  | cons w ws ih => exact (ih _).trans (State.store_inte _ _ _ _)
@[simp] theorem State.storeAll_intInhibit (ws : List (Word × Byte)) (s : State) : (s.storeAll ws).intInhibit = s.intInhibit := by
  induction ws generalizing s with
  | nil => rfl
  | cons w ws ih => exact (ih _).trans (State.store_intInhibit _ _ _ _)
@[simp] theorem State.storeAll_halted (ws : List (Word × Byte)) (s : State) : (s.storeAll ws).halted = s.halted := by
  induction ws generalizing s with
  | nil => rfl
  | cons w ws ih => exact (ih _).trans (State.store_halted _ _ _ _)
@[simp] theorem State.storeAll_ioOut (ws : List (Word × Byte)) (s : State) : (s.storeAll ws).ioOut = s.ioOut := by
  induction ws generalizing s with
  | nil => rfl
  | cons w ws ih => exact (ih _).trans (State.store_ioOut _ _ _ _)
@[simp] theorem State.storeAll_bus (ws : List (Word × Byte)) (s : State) : (s.storeAll ws).bus = s.bus := by
  induction ws generalizing s with
  | nil => rfl
  | cons w ws ih => exact (ih _).trans (State.store_bus _ _ _ _)
@[simp] theorem State.storeAll_clock (ws : List (Word × Byte)) (s : State) : (s.storeAll ws).clock = s.clock := by
  induction ws generalizing s with
  | nil => rfl
  | cons w ws ih => exact (ih _).trans (State.store_clock _ _ _ _)
@[simp] theorem State.storeAll_draws (ws : List (Word × Byte)) (s : State) : (s.storeAll ws).draws = s.draws := by
  induction ws generalizing s with
  | nil => rfl
  | cons w ws ih => exact (ih _).trans (State.store_draws _ _ _ _)
@[simp] theorem State.storeAll_host (ws : List (Word × Byte)) (s : State) : (s.storeAll ws).host = s.host := by
  induction ws generalizing s with
  | nil => rfl
  | cons w ws ih => exact (ih _).trans (State.store_host _ _ _ _)
@[simp] theorem State.storeAll_cfg (ws : List (Word × Byte)) (s : State) : (s.storeAll ws).cfg = s.cfg := by
  induction ws generalizing s with
  | nil => rfl
  | cons w ws ih => exact (ih _).trans (State.store_cfg _ _ _ _)

@[simp] theorem State.busTurn_regs (s : State) : s.busTurn.regs = s.regs := by unfold State.busTurn; split <;> simp
@[simp] theorem State.busTurn_flags (s : State) : s.busTurn.flags = s.flags := by unfold State.busTurn; split <;> simp
@[simp] theorem State.busTurn_sp (s : State) : s.busTurn.sp = s.sp := by unfold State.busTurn; split <;> simp
@[simp] theorem State.busTurn_pc (s : State) : s.busTurn.pc = s.pc := by unfold State.busTurn; split <;> simp
@[simp] theorem State.busTurn_inte (s : State) : s.busTurn.inte = s.inte := by unfold State.busTurn; split <;> simp
@[simp] theorem State.busTurn_intInhibit (s : State) : s.busTurn.intInhibit = s.intInhibit := by unfold State.busTurn; split <;> simp
@[simp] theorem State.busTurn_halted (s : State) : s.busTurn.halted = s.halted := by unfold State.busTurn; split <;> simp
@[simp] theorem State.busTurn_ioOut (s : State) : s.busTurn.ioOut = s.ioOut := by unfold State.busTurn; split <;> simp
@[simp] theorem State.busTurn_bus (s : State) : s.busTurn.bus = s.bus := by unfold State.busTurn; split <;> simp
@[simp] theorem State.busTurn_clock (s : State) : s.busTurn.clock = s.clock := by unfold State.busTurn; split <;> simp
@[simp] theorem State.busTurn_draws (s : State) : s.busTurn.draws = s.draws := by unfold State.busTurn; split <;> simp
@[simp] theorem State.busTurn_cfg (s : State) : s.busTurn.cfg = s.cfg := by unfold State.busTurn; split <;> simp
@[simp] theorem State.busTurn_events (s : State) : s.busTurn.host.events = s.host.events := by
  unfold State.busTurn; split <;> simp
@[simp] theorem State.busTurn_ioIn (s : State) : s.busTurn.host.ioIn = s.host.ioIn := by
  unfold State.busTurn; split <;> simp

@[simp] theorem State.afterRead_regs (k : Kind) (a : Word) (s : State) : (s.afterRead k a).regs = s.regs := by simp [State.afterRead]
@[simp] theorem State.afterRead_flags (k : Kind) (a : Word) (s : State) : (s.afterRead k a).flags = s.flags := by simp [State.afterRead]
@[simp] theorem State.afterRead_sp (k : Kind) (a : Word) (s : State) : (s.afterRead k a).sp = s.sp := by simp [State.afterRead]
@[simp] theorem State.afterRead_pc (k : Kind) (a : Word) (s : State) : (s.afterRead k a).pc = s.pc := by simp [State.afterRead]
@[simp] theorem State.afterRead_inte (k : Kind) (a : Word) (s : State) : (s.afterRead k a).inte = s.inte := by simp [State.afterRead]
@[simp] theorem State.afterRead_intInhibit (k : Kind) (a : Word) (s : State) : (s.afterRead k a).intInhibit = s.intInhibit := by simp [State.afterRead]
@[simp] theorem State.afterRead_halted (k : Kind) (a : Word) (s : State) : (s.afterRead k a).halted = s.halted := by simp [State.afterRead]
@[simp] theorem State.afterRead_ioOut (k : Kind) (a : Word) (s : State) : (s.afterRead k a).ioOut = s.ioOut := by simp [State.afterRead]
@[simp] theorem State.afterRead_clock (k : Kind) (a : Word) (s : State) : (s.afterRead k a).clock = s.clock := by simp [State.afterRead]
@[simp] theorem State.afterRead_cfg (k : Kind) (a : Word) (s : State) : (s.afterRead k a).cfg = s.cfg := by simp [State.afterRead]

@[simp] theorem State.afterRead_bus (k : Kind) (a : Word) (s : State) :
    (s.afterRead k a).bus = s.bus ++ [k.readCycle a (s.readVal k a)] := by simp [State.afterRead, State.readVal]

@[simp] theorem State.write_regs (k : Kind) (a : Word) (v : Byte) (s : State) : (s.write k a v).regs = s.regs := by simp [State.write]
@[simp] theorem State.write_flags (k : Kind) (a : Word) (v : Byte) (s : State) : (s.write k a v).flags = s.flags := by simp [State.write]
@[simp] theorem State.write_sp (k : Kind) (a : Word) (v : Byte) (s : State) : (s.write k a v).sp = s.sp := by simp [State.write]
@[simp] theorem State.write_pc (k : Kind) (a : Word) (v : Byte) (s : State) : (s.write k a v).pc = s.pc := by simp [State.write]
@[simp] theorem State.write_inte (k : Kind) (a : Word) (v : Byte) (s : State) : (s.write k a v).inte = s.inte := by simp [State.write]
@[simp] theorem State.write_intInhibit (k : Kind) (a : Word) (v : Byte) (s : State) : (s.write k a v).intInhibit = s.intInhibit := by simp [State.write]
@[simp] theorem State.write_halted (k : Kind) (a : Word) (v : Byte) (s : State) : (s.write k a v).halted = s.halted := by simp [State.write]
@[simp] theorem State.write_ioOut (k : Kind) (a : Word) (v : Byte) (s : State) : (s.write k a v).ioOut = s.ioOut := by simp [State.write]
@[simp] theorem State.write_bus (k : Kind) (a : Word) (v : Byte) (s : State) : (s.write k a v).bus = s.bus ++ [k.writeCycle a v] := by simp [State.write]
@[simp] theorem State.write_clock (k : Kind) (a : Word) (v : Byte) (s : State) : (s.write k a v).clock = s.clock := by simp [State.write]
@[simp] theorem State.write_draws (k : Kind) (a : Word) (v : Byte) (s : State) : (s.write k a v).draws = s.draws := by simp [State.write]
@[simp] theorem State.write_cfg (k : Kind) (a : Word) (v : Byte) (s : State) : (s.write k a v).cfg = s.cfg := by simp [State.write]

@[simp] theorem State.afterRead16_regs (k : Kind) (a : Word) (s : State) : (s.afterRead16 k a).regs = s.regs := by simp [State.afterRead16]
@[simp] theorem State.afterRead16_flags (k : Kind) (a : Word) (s : State) : (s.afterRead16 k a).flags = s.flags := by simp [State.afterRead16]
@[simp] theorem State.afterRead16_sp (k : Kind) (a : Word) (s : State) : (s.afterRead16 k a).sp = s.sp := by simp [State.afterRead16]
@[simp] theorem State.afterRead16_pc (k : Kind) (a : Word) (s : State) : (s.afterRead16 k a).pc = s.pc := by simp [State.afterRead16]
@[simp] theorem State.afterRead16_inte (k : Kind) (a : Word) (s : State) : (s.afterRead16 k a).inte = s.inte := by simp [State.afterRead16]
@[simp] theorem State.afterRead16_intInhibit (k : Kind) (a : Word) (s : State) : (s.afterRead16 k a).intInhibit = s.intInhibit := by simp [State.afterRead16]
@[simp] theorem State.afterRead16_halted (k : Kind) (a : Word) (s : State) : (s.afterRead16 k a).halted = s.halted := by simp [State.afterRead16]
@[simp] theorem State.afterRead16_ioOut (k : Kind) (a : Word) (s : State) : (s.afterRead16 k a).ioOut = s.ioOut := by simp [State.afterRead16]
@[simp] theorem State.afterRead16_clock (k : Kind) (a : Word) (s : State) : (s.afterRead16 k a).clock = s.clock := by simp [State.afterRead16]
@[simp] theorem State.afterRead16_cfg (k : Kind) (a : Word) (s : State) : (s.afterRead16 k a).cfg = s.cfg := by simp [State.afterRead16]

@[simp] theorem State.push16_regs (w : Word) (s : State) : (s.push16 w).regs = s.regs := by simp [State.push16]
@[simp] theorem State.push16_flags (w : Word) (s : State) : (s.push16 w).flags = s.flags := by simp [State.push16]
@[simp] theorem State.push16_sp (w : Word) (s : State) : (s.push16 w).sp = s.sp - 2#16 := by simp [State.push16]
@[simp] theorem State.push16_pc (w : Word) (s : State) : (s.push16 w).pc = s.pc := by simp [State.push16]
@[simp] theorem State.push16_inte (w : Word) (s : State) : (s.push16 w).inte = s.inte := by simp [State.push16]
@[simp] theorem State.push16_intInhibit (w : Word) (s : State) : (s.push16 w).intInhibit = s.intInhibit := by simp [State.push16]
@[simp] theorem State.push16_halted (w : Word) (s : State) : (s.push16 w).halted = s.halted := by simp [State.push16]
@[simp] theorem State.push16_ioOut (w : Word) (s : State) : (s.push16 w).ioOut = s.ioOut := by simp [State.push16]
@[simp] theorem State.push16_bus (w : Word) (s : State) : (s.push16 w).bus = s.bus ++ [.stackWrite (s.sp - 1#16) (hi8 w), .stackWrite (s.sp - 2#16) (lo8 w)] := by
  simp [State.push16, Kind.writeCycle]
@[simp] theorem State.push16_clock (w : Word) (s : State) : (s.push16 w).clock = s.clock := by simp [State.push16]
@[simp] theorem State.push16_draws (w : Word) (s : State) : (s.push16 w).draws = s.draws := by simp [State.push16]
@[simp] theorem State.push16_cfg (w : Word) (s : State) : (s.push16 w).cfg = s.cfg := by simp [State.push16]

@[simp] theorem State.afterPop_regs (s : State) : (s.afterPop).regs = s.regs := by simp [State.afterPop]
@[simp] theorem State.afterPop_flags (s : State) : (s.afterPop).flags = s.flags := by simp [State.afterPop]
@[simp] theorem State.afterPop_sp (s : State) : (s.afterPop).sp = s.sp + 2#16 := by simp [State.afterPop]
@[simp] theorem State.afterPop_pc (s : State) : (s.afterPop).pc = s.pc := by simp [State.afterPop]
@[simp] theorem State.afterPop_inte (s : State) : (s.afterPop).inte = s.inte := by simp [State.afterPop]
@[simp] theorem State.afterPop_intInhibit (s : State) : (s.afterPop).intInhibit = s.intInhibit := by simp [State.afterPop]
@[simp] theorem State.afterPop_halted (s : State) : (s.afterPop).halted = s.halted := by simp [State.afterPop]
@[simp] theorem State.afterPop_ioOut (s : State) : (s.afterPop).ioOut = s.ioOut := by simp [State.afterPop]
@[simp] theorem State.afterPop_clock (s : State) : (s.afterPop).clock = s.clock := by simp [State.afterPop]
@[simp] theorem State.afterPop_cfg (s : State) : (s.afterPop).cfg = s.cfg := by simp [State.afterPop]

@[simp] theorem State.acknowledge_regs (h : Bool) (v : Byte) (s : State) : (s.acknowledge h v).regs = s.regs := by simp [State.acknowledge]
@[simp] theorem State.acknowledge_flags (h : Bool) (v : Byte) (s : State) : (s.acknowledge h v).flags = s.flags := by simp [State.acknowledge]
@[simp] theorem State.acknowledge_sp (h : Bool) (v : Byte) (s : State) : (s.acknowledge h v).sp = s.sp := by simp [State.acknowledge]
@[simp] theorem State.acknowledge_pc (h : Bool) (v : Byte) (s : State) : (s.acknowledge h v).pc = s.pc := by simp [State.acknowledge]
@[simp] theorem State.acknowledge_inte (h : Bool) (v : Byte) (s : State) : (s.acknowledge h v).inte = s.inte := by simp [State.acknowledge]
@[simp] theorem State.acknowledge_intInhibit (h : Bool) (v : Byte) (s : State) : (s.acknowledge h v).intInhibit = s.intInhibit := by simp [State.acknowledge]
@[simp] theorem State.acknowledge_halted (h : Bool) (v : Byte) (s : State) : (s.acknowledge h v).halted = s.halted := by simp [State.acknowledge]
@[simp] theorem State.acknowledge_ioOut (h : Bool) (v : Byte) (s : State) : (s.acknowledge h v).ioOut = s.ioOut := by simp [State.acknowledge]
@[simp] theorem State.acknowledge_bus (h : Bool) (v : Byte) (s : State) : (s.acknowledge h v).bus = s.bus ++ [.intAck s.pc v h] := by simp [State.acknowledge]
@[simp] theorem State.acknowledge_clock (h : Bool) (v : Byte) (s : State) : (s.acknowledge h v).clock = s.clock := by simp [State.acknowledge]
@[simp] theorem State.acknowledge_draws (h : Bool) (v : Byte) (s : State) : (s.acknowledge h v).draws = s.draws := by simp [State.acknowledge]
@[simp] theorem State.acknowledge_cfg (h : Bool) (v : Byte) (s : State) : (s.acknowledge h v).cfg = s.cfg := by simp [State.acknowledge]

@[simp] theorem State.output_regs (p v : Byte) (s : State) : (s.output p v).regs = s.regs := by simp [State.output]
@[simp] theorem State.output_flags (p v : Byte) (s : State) : (s.output p v).flags = s.flags := by simp [State.output]
@[simp] theorem State.output_sp (p v : Byte) (s : State) : (s.output p v).sp = s.sp := by simp [State.output]
@[simp] theorem State.output_pc (p v : Byte) (s : State) : (s.output p v).pc = s.pc := by simp [State.output]
@[simp] theorem State.output_inte (p v : Byte) (s : State) : (s.output p v).inte = s.inte := by simp [State.output]
@[simp] theorem State.output_intInhibit (p v : Byte) (s : State) : (s.output p v).intInhibit = s.intInhibit := by simp [State.output]
@[simp] theorem State.output_halted (p v : Byte) (s : State) : (s.output p v).halted = s.halted := by simp [State.output]
@[simp] theorem State.output_ioOut (p v : Byte) (s : State) : (s.output p v).ioOut = s.ioOut ++ [{ port := p, v := v }] := by simp [State.output]
@[simp] theorem State.output_bus (p v : Byte) (s : State) : (s.output p v).bus = s.bus ++ [.output p v] := by simp [State.output]
@[simp] theorem State.output_clock (p v : Byte) (s : State) : (s.output p v).clock = s.clock := by simp [State.output]
@[simp] theorem State.output_draws (p v : Byte) (s : State) : (s.output p v).draws = s.draws := by simp [State.output]
@[simp] theorem State.output_cfg (p v : Byte) (s : State) : (s.output p v).cfg = s.cfg := by simp [State.output]

@[simp] theorem State.afterInput_regs (p : Byte) (s : State) : (s.afterInput p).regs = s.regs := by simp [State.afterInput]
@[simp] theorem State.afterInput_flags (p : Byte) (s : State) : (s.afterInput p).flags = s.flags := by simp [State.afterInput]
@[simp] theorem State.afterInput_sp (p : Byte) (s : State) : (s.afterInput p).sp = s.sp := by simp [State.afterInput]
@[simp] theorem State.afterInput_pc (p : Byte) (s : State) : (s.afterInput p).pc = s.pc := by simp [State.afterInput]
@[simp] theorem State.afterInput_inte (p : Byte) (s : State) : (s.afterInput p).inte = s.inte := by simp [State.afterInput]
@[simp] theorem State.afterInput_intInhibit (p : Byte) (s : State) : (s.afterInput p).intInhibit = s.intInhibit := by simp [State.afterInput]
@[simp] theorem State.afterInput_halted (p : Byte) (s : State) : (s.afterInput p).halted = s.halted := by simp [State.afterInput]
@[simp] theorem State.afterInput_ioOut (p : Byte) (s : State) : (s.afterInput p).ioOut = s.ioOut := by simp [State.afterInput]
@[simp] theorem State.afterInput_clock (p : Byte) (s : State) : (s.afterInput p).clock = s.clock := by simp [State.afterInput]
@[simp] theorem State.afterInput_cfg (p : Byte) (s : State) : (s.afterInput p).cfg = s.cfg := by simp [State.afterInput]

@[simp] theorem State.callTo_regs (a : Word) (s : State) : (s.callTo a).regs = s.regs := by simp [State.callTo]
@[simp] theorem State.callTo_flags (a : Word) (s : State) : (s.callTo a).flags = s.flags := by simp [State.callTo]
@[simp] theorem State.callTo_sp (a : Word) (s : State) : (s.callTo a).sp = s.sp - 2#16 := by simp [State.callTo]
@[simp] theorem State.callTo_pc (a : Word) (s : State) : (s.callTo a).pc = a := by simp [State.callTo]
@[simp] theorem State.callTo_inte (a : Word) (s : State) : (s.callTo a).inte = s.inte := by simp [State.callTo]
@[simp] theorem State.callTo_intInhibit (a : Word) (s : State) : (s.callTo a).intInhibit = s.intInhibit := by simp [State.callTo]
@[simp] theorem State.callTo_halted (a : Word) (s : State) : (s.callTo a).halted = s.halted := by simp [State.callTo]
@[simp] theorem State.callTo_ioOut (a : Word) (s : State) : (s.callTo a).ioOut = s.ioOut := by simp [State.callTo]
@[simp] theorem State.callTo_clock (a : Word) (s : State) : (s.callTo a).clock = s.clock := by simp [State.callTo]
@[simp] theorem State.callTo_draws (a : Word) (s : State) : (s.callTo a).draws = s.draws := by simp [State.callTo]
@[simp] theorem State.callTo_cfg (a : Word) (s : State) : (s.callTo a).cfg = s.cfg := by simp [State.callTo]

@[simp] theorem State.returnFrom_regs (s : State) : (s.returnFrom).regs = s.regs := by simp [State.returnFrom]
@[simp] theorem State.returnFrom_flags (s : State) : (s.returnFrom).flags = s.flags := by simp [State.returnFrom]
@[simp] theorem State.returnFrom_sp (s : State) : (s.returnFrom).sp = s.sp + 2#16 := by simp [State.returnFrom]
@[simp] theorem State.returnFrom_inte (s : State) : (s.returnFrom).inte = s.inte := by simp [State.returnFrom]
@[simp] theorem State.returnFrom_intInhibit (s : State) : (s.returnFrom).intInhibit = s.intInhibit := by simp [State.returnFrom]
@[simp] theorem State.returnFrom_halted (s : State) : (s.returnFrom).halted = s.halted := by simp [State.returnFrom]
@[simp] theorem State.returnFrom_ioOut (s : State) : (s.returnFrom).ioOut = s.ioOut := by simp [State.returnFrom]
@[simp] theorem State.returnFrom_clock (s : State) : (s.returnFrom).clock = s.clock := by simp [State.returnFrom]
@[simp] theorem State.returnFrom_cfg (s : State) : (s.returnFrom).cfg = s.cfg := by simp [State.returnFrom]

@[simp] theorem State.returnFrom_pc (s : State) : s.returnFrom.pc = s.popVal := rfl

end Sys2Proof.Machine
end

