-- ==== Sys2Proof/Laws/Ops.lean ====
section
/-! SUPPORT. One lemma per shared operation that says what it can do: on the bytes of memory, on the canonical form, and, where no
other bus master takes part, in full. -/

namespace Sys2Proof.Machine

theorem State.inv_iff {s : State} : s.inv = true ↔ s.mem.wf = true ∧ s.stackMem.wf = true := by
  simp [State.inv]

/-! ### Byte order -/

@[simp] theorem hi8_joinBytes (h l : Byte) : hi8 (joinBytes h l) = h := by
  apply BitVec.eq_of_toNat_eq; simp [hi8, joinBytes]; omega

@[simp] theorem lo8_joinBytes (h l : Byte) : lo8 (joinBytes h l) = l := by
  apply BitVec.eq_of_toNat_eq; simp [lo8, joinBytes]; omega

@[simp] theorem joinBytes_hi8_lo8 (w : Word) : joinBytes (hi8 w) (lo8 w) = w := by
  apply BitVec.eq_of_toNat_eq; simp [hi8, lo8, joinBytes]; omega

/-! ### Store -/

@[simp] theorem State.store_apart (k j : Kind) (a : Word) (v : Byte) (s : State) :
    (s.store k a v).apart j = s.apart j := by simp [State.apart]

/-- Every byte after a store: the stored one where the store takes effect, the old one elsewhere. -/
theorem State.byteAt_store {s : State} (h : s.inv = true) (k j : Kind) (a b : Word) (v : Byte) :
    (s.store k a v).byteAt j b
      = if s.writable k a = true ∧ s.apart j = s.apart k ∧ b = a then v else s.byteAt j b := by
  obtain ⟨hm, hs⟩ := State.inv_iff.1 h
  have hb : (b.toNat = a.toNat) ↔ b = a := BitVec.toNat_inj
  unfold State.byteAt
  rw [State.store_apart]
  unfold State.store
  by_cases hk : s.apart k = true
  · have hw : s.writable k a = true := by simp [State.writable, hk]
    rw [if_pos hk, hw, hk]
    by_cases hj : s.apart j = true
    · simp [hj, Memory.get_set hs, hb]
    · simp [hj]
  · rw [if_neg hk]
    have hk' : s.apart k = false := by simpa using hk
    by_cases hw : s.writable k a = true
    · rw [if_pos hw, hw, hk']
      by_cases hj : s.apart j = true
      · simp [hj]
      · simp [hj, Memory.get_set hm, hb]
    · rw [if_neg hw]; simp [hw]

/-- A store keeps the canonical form. -/
theorem State.inv_store {s : State} (h : s.inv = true) (k : Kind) (a : Word) (v : Byte) :
    (s.store k a v).inv = true := by
  obtain ⟨hm, hs⟩ := State.inv_iff.1 h
  unfold State.store
  split
  · exact State.inv_iff.2 ⟨hm, Memory.wf_set hs a.isLt⟩
  · split
    · exact State.inv_iff.2 ⟨Memory.wf_set hm a.isLt, hs⟩
    · exact h

theorem State.inv_storeAll {s : State} (h : s.inv = true) (ws : List (Word × Byte)) : (s.storeAll ws).inv = true := by
  induction ws generalizing s with
  | nil => exact h
  | cons w ws ih => exact ih (State.inv_store h _ _ _)

/-! ### Machine cycles -/

/-- The other bus master's turn: nothing, or the next batch of its writes. -/
theorem State.busTurn_cases (s : State) :
    s.host.dma = [] ∧ s.busTurn = s ∨
    ∃ ws rest, s.host.dma = ws :: rest ∧ s.busTurn = { s with host := { s.host with dma := rest } }.storeAll ws := by
  unfold State.busTurn
  cases hd : s.host.dma with
  | nil => exact .inl ⟨rfl, rfl⟩
  | cons ws rest => exact .inr ⟨ws, rest, rfl, rfl⟩

@[simp] theorem State.busTurn_sole {s : State} (h : s.soleMaster) : s.busTurn = s := by
  obtain ⟨-, h'⟩ | ⟨ws, rest, h', -⟩ := s.busTurn_cases
  · exact h'
  · rw [State.soleMaster, h'] at h; cases h

theorem State.inv_busTurn {s : State} (h : s.inv = true) : s.busTurn.inv = true := by
  obtain ⟨-, h'⟩ | ⟨ws, rest, -, h'⟩ := s.busTurn_cases
  · rw [h']; exact h
  · rw [h']; exact State.inv_storeAll (s := { s with host := { s.host with dma := rest } }) h ws

@[simp] theorem State.inv_record (c : BusCycle) (s : State) : (s.record c).inv = s.inv := rfl

@[simp] theorem State.inv_tick (n : Nat) (s : State) : (s.tick n).inv = s.inv := rfl

@[simp] theorem State.inv_goto (a : Word) (s : State) : (s.goto a).inv = s.inv := rfl

@[simp] theorem State.inv_beginInterrupt (s : State) : s.beginInterrupt.inv = s.inv := rfl

@[simp] theorem State.inv_setPair (p : Pair) (w : Word) (s : State) : (s.setPair p w).inv = s.inv := by cases p <;> rfl

/-- What a read answers where no other bus master takes part and the address holds a stored byte. -/
theorem State.readVal_sole {s : State} (h : s.soleMaster) {k : Kind} {a : Word} (hs : s.stored k a = true) :
    s.readVal k a = s.byteAt k a := by
  rw [State.readVal, State.busTurn_sole h, State.peek, if_pos hs]

/-- What a read does where no other bus master takes part. -/
theorem State.afterRead_sole {s : State} (h : s.soleMaster) (k : Kind) (a : Word) :
    s.afterRead k a =
      { s with bus := s.bus ++ [k.readCycle a (s.peek k a)],
               draws := if s.stored k a then s.draws else s.draws + 1 } := by
  simp only [State.afterRead, State.busTurn_sole h]; rfl

theorem State.inv_afterRead {s : State} (h : s.inv = true) (k : Kind) (a : Word) : (s.afterRead k a).inv = true := by
  have := State.inv_busTurn h
  simpa [State.afterRead, State.inv] using this

theorem State.inv_afterRead16 {s : State} (h : s.inv = true) (k : Kind) (a : Word) : (s.afterRead16 k a).inv = true :=
  State.inv_afterRead (State.inv_afterRead h k a) k _

/-- What a write does where no other bus master takes part. -/
theorem State.write_sole {s : State} (h : s.soleMaster) (k : Kind) (a : Word) (v : Byte) :
    s.write k a v = (s.store k a v).record (k.writeCycle a v) := by
  rw [State.write, State.busTurn_sole h]

theorem State.inv_write {s : State} (h : s.inv = true) (k : Kind) (a : Word) (v : Byte) : (s.write k a v).inv = true :=
  State.inv_store (State.inv_busTurn h) k a v

/-- The bytes after a write, where no other bus master takes part. -/
theorem State.byteAt_write {s : State} (h : s.inv = true) (hs : s.soleMaster) (k j : Kind) (a b : Word) (v : Byte) :
    (s.write k a v).byteAt j b
      = if s.writable k a = true ∧ s.apart j = s.apart k ∧ b = a then v else s.byteAt j b := by
  rw [State.write_sole hs]; exact State.byteAt_store h k j a b v

@[simp] theorem State.write_apart (k j : Kind) (a : Word) (v : Byte) (s : State) :
    (s.write k a v).apart j = s.apart j := by simp [State.apart]

@[simp] theorem State.write_writable (k j : Kind) (a b : Word) (v : Byte) (s : State) :
    (s.write k a v).writable j b = s.writable j b := by simp [State.writable]

@[simp] theorem State.write_stored (k j : Kind) (a b : Word) (v : Byte) (s : State) :
    (s.write k a v).stored j b = s.stored j b := by simp [State.stored]

@[simp] theorem State.write_soleMaster {s : State} (h : s.soleMaster) (k : Kind) (a : Word) (v : Byte) :
    (s.write k a v).soleMaster := by
  rw [State.write_sole h]; simpa [State.soleMaster] using h

@[simp] theorem State.afterRead_soleMaster {s : State} (h : s.soleMaster) (k : Kind) (a : Word) :
    (s.afterRead k a).soleMaster := by
  rw [State.afterRead_sole h]; exact h

@[simp] theorem State.byteAt_afterRead {s : State} (h : s.soleMaster) (k j : Kind) (a b : Word) :
    (s.afterRead k a).byteAt j b = s.byteAt j b := by
  rw [State.afterRead_sole h]; rfl

/-! ### Stack -/

theorem State.inv_push16 {s : State} (h : s.inv = true) (w : Word) : (s.push16 w).inv = true :=
  State.inv_write (State.inv_write h _ _ _) _ _ _

/-- The bytes after a push, where no other bus master takes part: the low byte of the word at the new SP, its high byte one
above, both only where the stack is writable; every other byte as before. -/
theorem State.byteAt_push16 {s : State} (h : s.inv = true) (hs : s.soleMaster) (w : Word) (j : Kind) (b : Word) :
    (s.push16 w).byteAt j b =
      if s.writable .stack (s.sp - 2#16) = true ∧ s.apart j = s.apart .stack ∧ b = s.sp - 2#16 then lo8 w
      else if s.writable .stack (s.sp - 1#16) = true ∧ s.apart j = s.apart .stack ∧ b = s.sp - 1#16 then hi8 w
      else s.byteAt j b := by
  have h1 := State.inv_write h .stack (s.sp - 1#16) (hi8 w)
  have hs1 := State.write_soleMaster hs .stack (s.sp - 1#16) (hi8 w)
  change (((s.write .stack (s.sp - 1#16) (hi8 w)).write .stack (s.sp - 2#16) (lo8 w))).byteAt j b = _
  rw [State.byteAt_write h1 hs1, State.byteAt_write h hs]
  simp

theorem State.inv_afterPop {s : State} (h : s.inv = true) : s.afterPop.inv = true := State.inv_afterRead16 h _ _

/-- What a pop answers where no other bus master takes part and the stack answers with stored bytes. -/
theorem State.popVal_sole {s : State} (h : s.soleMaster) (h0 : s.stored .stack s.sp = true)
    (h1 : s.stored .stack (s.sp + 1#16) = true) :
    s.popVal = joinBytes (s.byteAt .stack (s.sp + 1#16)) (s.byteAt .stack s.sp) := by
  have h1' : (s.afterRead .stack s.sp).stored .stack (s.sp + 1#16) = true := by simpa [State.stored, State.apart] using h1
  rw [State.popVal, State.readVal16, State.readVal_sole (State.afterRead_soleMaster h _ _) h1', State.readVal_sole h h0,
    State.byteAt_afterRead h]

theorem State.inv_callTo {s : State} (h : s.inv = true) (a : Word) : (s.callTo a).inv = true := State.inv_push16 h _

theorem State.inv_returnFrom {s : State} (h : s.inv = true) : s.returnFrom.inv = true := State.inv_afterPop h

/-- A conditional jump goes to its target or falls through. -/
theorem State.jumpIf_cases (cc : Cond) (a : Word) (s : State) :
    s.flags.holds cc = true ∧ s.jumpIf cc a = (s.goto a).tick 10 ∨
    s.flags.holds cc = false ∧ s.jumpIf cc a = s.tick 10 := by
  unfold State.jumpIf; cases s.flags.holds cc <;> simp

/-- A conditional call calls or falls through. -/
theorem State.callIf_cases (cc : Cond) (a : Word) (s : State) :
    s.flags.holds cc = true ∧ s.callIf cc a = (s.callTo a).tick 17 ∨
    s.flags.holds cc = false ∧ s.callIf cc a = s.tick 11 := by
  unfold State.callIf; cases s.flags.holds cc <;> simp

/-- A conditional return returns or falls through. -/
theorem State.returnIf_cases (cc : Cond) (s : State) :
    s.flags.holds cc = true ∧ s.returnIf cc = s.returnFrom.tick 11 ∨
    s.flags.holds cc = false ∧ s.returnIf cc = s.tick 5 := by
  unfold State.returnIf; cases s.flags.holds cc <;> simp

/-! ### Input and output -/

theorem State.inv_afterInput {s : State} (h : s.inv = true) (p : Byte) : (s.afterInput p).inv = true := by
  have := State.inv_busTurn h
  simpa [State.afterInput, State.inv] using this

theorem State.inv_output {s : State} (h : s.inv = true) (p v : Byte) : (s.output p v).inv = true := by
  have := State.inv_busTurn h
  simpa [State.output, State.inv] using this

/-! ### The boundary -/

theorem State.inv_acknowledge {s : State} (h : s.inv = true) (f : Bool) (v : Byte) : (s.acknowledge f v).inv = true :=
  State.inv_busTurn h

/-- The policy on undocumented opcodes answers the documented effect or refuses. -/
theorem State.underPolicy_cases (s t : State) :
    s.cfg.undoc = .asDocumented ∧ s.underPolicy t = .next t ∨
    s.cfg.undoc = .refuse ∧ s.underPolicy t = .refused .undocumentedOpcode := by
  unfold State.underPolicy; cases s.cfg.undoc <;> simp

/-- All that interrupt acceptance can do. -/
theorem State.acceptInterrupt_cases (ev : HostEvent) (s : State) :
    s.cfg.intPolicy.contains ev.ack1 = true ∧
      (isRestart ev.ack1 = true ∧ s.acceptInterrupt ev = .next (s.enterByRestart ev.ack1) ∨
       isRestart ev.ack1 = false ∧ ev.ack1 = 0xCD#8 ∧
         s.acceptInterrupt ev = .next (s.enterByCall ev.ack1 ev.ack2 ev.ack3) ∨
       isRestart ev.ack1 = false ∧ ev.ack1 ≠ 0xCD#8 ∧ opLength ev.ack1 = 1 ∧
         s.acceptInterrupt ev =
           exec (decodeFields ev.ack1 0#8 0#8) (s.beginInterrupt.acknowledge s.halted ev.ack1) ∨
       s.acceptInterrupt ev = .refused (.suppliedBytesUnsettled ev.ack1)) ∨
    s.cfg.intPolicy.contains ev.ack1 = false ∧ s.acceptInterrupt ev = .refused (.suppliedNotAdmitted ev.ack1) := by
  unfold State.acceptInterrupt
  cases s.cfg.intPolicy.contains ev.ack1
  · exact .inr ⟨rfl, rfl⟩
  · refine .inl ⟨rfl, ?_⟩
    cases isRestart ev.ack1
    · by_cases hc : ev.ack1 = 0xCD#8
      · simp [hc]
      · by_cases hl : opLength ev.ack1 = 1 <;> simp [hc, hl]
    · simp

/-- All that a boundary can do. -/
theorem State.boundary_cases (ev : HostEvent) (s : State) :
    ev.stall = none ∧ s.boundary ev = .fault .busHeld ∨
    s.intInhibit = true ∧ s.boundary ev = { s with intInhibit := false }.proceed ∨
    s.intInhibit = false ∧ s.inte = true ∧ ev.int = true ∧ s.boundary ev = s.acceptInterrupt ev ∨
    s.intInhibit = false ∧ s.boundary ev = s.proceed := by
  unfold State.boundary
  cases ev.stall with
  | none => exact .inl ⟨rfl, rfl⟩
  | some n => cases s.intInhibit <;> cases s.inte <;> cases ev.int <;> simp

/-- What a completed cycle of an abandoned instruction leaves done keeps the canonical form. -/
theorem State.inv_keepCycle {s : State} (h : s.inv = true) (c : BusCycle) : (s.keepCycle c).inv = true := by
  have hb := State.inv_busTurn h
  cases c <;> first | exact State.inv_store hb _ _ _ | exact hb

/-- It changes no parameter and takes back no output. -/
theorem State.keepCycle_frame (s : State) (c : BusCycle) :
    (s.keepCycle c).cfg = s.cfg ∧ ∃ more, (s.keepCycle c).ioOut = s.ioOut ++ more := by
  cases c
  case output port v => exact ⟨by simp [State.keepCycle], [{ port := port, v := v }], by simp [State.keepCycle]⟩
  all_goals exact ⟨by simp [State.keepCycle], [], by simp [State.keepCycle]⟩

/-- All that RESET inside a step can leave. -/
theorem State.abandon_cases (n : Nat) (ev : HostEvent) (s : State) :
    n = 0 ∧ s.abandon n ev = .next s ∨
    0 < n ∧ ((∃ t, s.boundary { ev with stall := some 0 } = .next t ∧
        s.abandon n ev = .next { (t.bus.take n).foldl State.keepCycle s with bus := t.bus.take n, draws := t.draws }) ∨
      (∃ f, s.boundary { ev with stall := some 0 } = .fault f ∧ s.abandon n ev = .fault f) ∨
      (∃ why, s.boundary { ev with stall := some 0 } = .refused why ∧ s.abandon n ev = .refused why)) := by
  unfold State.abandon
  by_cases hn : n = 0
  · exact .inl ⟨hn, if_pos hn⟩
  · refine .inr ⟨Nat.pos_of_ne_zero hn, ?_⟩
    rw [if_neg hn]
    cases s.boundary { ev with stall := some 0 } with
    | next t => exact .inl ⟨t, rfl, rfl⟩
    | fault f => exact .inr (.inl ⟨f, rfl, rfl⟩)
    | refused why => exact .inr (.inr ⟨why, rfl, rfl⟩)

/-- All that a step can do. -/
theorem step_cases (s : State) :
    s.event.resetPeriods = 0 ∧ step s = s.openStep.boundary s.event ∨
    0 < s.event.resetPeriods ∧ s.event.resetPeriods < 3 ∧ step s = .refused .shortReset ∨
    3 ≤ s.event.resetPeriods ∧
      ((∃ t, s.openStep.abandon s.event.abandonAfter s.event = .next t ∧ step s = .next t.resetEvent) ∨
       (∃ f, s.openStep.abandon s.event.abandonAfter s.event = .fault f ∧ step s = .fault f) ∨
       (∃ why, s.openStep.abandon s.event.abandonAfter s.event = .refused why ∧ step s = .refused why)) := by
  unfold step State.runStep
  by_cases h0 : s.event.resetPeriods = 0
  · simp [h0]
  · by_cases h3 : s.event.resetPeriods < 3
    · simp [h0, h3]; omega
    · have h3' : 3 ≤ s.event.resetPeriods := by omega
      refine .inr (.inr ⟨h3', ?_⟩)
      rw [if_neg h0, if_neg h3]
      cases s.openStep.abandon s.event.abandonAfter s.event with
      | next t => exact .inl ⟨t, rfl, rfl⟩
      | fault f => exact .inr (.inl ⟨f, rfl, rfl⟩)
      | refused why => exact .inr (.inr ⟨why, rfl, rfl⟩)

end Sys2Proof.Machine
end

