-- ==== Sys2Proof/Laws/PerInstr.lean ====
section
/-! SUPPORT. The family EncodedLength: the bytes an instruction encodes to are as many as the length function of R108 says for the
first of them. One lemma per constructor. -/

namespace Sys2Proof.Laws

/-- R102, R108: the encoding has the length that its own first byte announces. -/
def EncodedLength.Statement (i : Instr) : Prop :=
  ∀ op rest, encode i = op :: rest → opLength op = rest.length + 1

theorem encodedLength_of (n : Nat) {i : Instr} {op : Byte} {rest : List Byte} (he : encode i = op :: rest)
    (hl : opLength op = n) (hn : n = rest.length + 1) : EncodedLength.Statement i := by
  intro op' rest' h
  obtain ⟨rfl, rfl⟩ := List.cons.inj (he.symm.trans h)
  exact hl.trans hn

theorem EncodedLength.movRR (x : Reg) (y : Reg) : EncodedLength.Statement (.movRR x y) := by
  cases x <;> cases y <;> exact encodedLength_of 1 rfl (by decide) rfl
theorem EncodedLength.movRM (x : Reg) : EncodedLength.Statement (.movRM x) := by
  cases x <;> exact encodedLength_of 1 rfl (by decide) rfl
theorem EncodedLength.movMR (x : Reg) : EncodedLength.Statement (.movMR x) := by
  cases x <;> exact encodedLength_of 1 rfl (by decide) rfl
theorem EncodedLength.mviR (x : Reg) (y : Byte) : EncodedLength.Statement (.mviR x y) := by
  cases x <;> exact encodedLength_of 2 rfl (by decide) rfl
theorem EncodedLength.mviM (x : Byte) : EncodedLength.Statement (.mviM x) := encodedLength_of 2 rfl (by decide) rfl
theorem EncodedLength.lxi (x : Pair) (y : Word) : EncodedLength.Statement (.lxi x y) := by
  cases x <;> exact encodedLength_of 3 rfl (by decide) rfl
theorem EncodedLength.lda (x : Word) : EncodedLength.Statement (.lda x) := encodedLength_of 3 rfl (by decide) rfl
theorem EncodedLength.sta (x : Word) : EncodedLength.Statement (.sta x) := encodedLength_of 3 rfl (by decide) rfl
theorem EncodedLength.lhld (x : Word) : EncodedLength.Statement (.lhld x) := encodedLength_of 3 rfl (by decide) rfl
theorem EncodedLength.shld (x : Word) : EncodedLength.Statement (.shld x) := encodedLength_of 3 rfl (by decide) rfl
theorem EncodedLength.ldax (x : IndexPair) : EncodedLength.Statement (.ldax x) := by
  cases x <;> exact encodedLength_of 1 rfl (by decide) rfl
theorem EncodedLength.stax (x : IndexPair) : EncodedLength.Statement (.stax x) := by
  cases x <;> exact encodedLength_of 1 rfl (by decide) rfl
theorem EncodedLength.xchg : EncodedLength.Statement (.xchg) := encodedLength_of 1 rfl (by decide) rfl
theorem EncodedLength.addR (x : Reg) : EncodedLength.Statement (.addR x) := by
  cases x <;> exact encodedLength_of 1 rfl (by decide) rfl
theorem EncodedLength.addM : EncodedLength.Statement (.addM) := encodedLength_of 1 rfl (by decide) rfl
theorem EncodedLength.adi (x : Byte) : EncodedLength.Statement (.adi x) := encodedLength_of 2 rfl (by decide) rfl
theorem EncodedLength.adcR (x : Reg) : EncodedLength.Statement (.adcR x) := by
  cases x <;> exact encodedLength_of 1 rfl (by decide) rfl
theorem EncodedLength.adcM : EncodedLength.Statement (.adcM) := encodedLength_of 1 rfl (by decide) rfl
theorem EncodedLength.aci (x : Byte) : EncodedLength.Statement (.aci x) := encodedLength_of 2 rfl (by decide) rfl
theorem EncodedLength.subR (x : Reg) : EncodedLength.Statement (.subR x) := by
  cases x <;> exact encodedLength_of 1 rfl (by decide) rfl
theorem EncodedLength.subM : EncodedLength.Statement (.subM) := encodedLength_of 1 rfl (by decide) rfl
theorem EncodedLength.sui (x : Byte) : EncodedLength.Statement (.sui x) := encodedLength_of 2 rfl (by decide) rfl
theorem EncodedLength.sbbR (x : Reg) : EncodedLength.Statement (.sbbR x) := by
  cases x <;> exact encodedLength_of 1 rfl (by decide) rfl
theorem EncodedLength.sbbM : EncodedLength.Statement (.sbbM) := encodedLength_of 1 rfl (by decide) rfl
theorem EncodedLength.sbi (x : Byte) : EncodedLength.Statement (.sbi x) := encodedLength_of 2 rfl (by decide) rfl
theorem EncodedLength.inrR (x : Reg) : EncodedLength.Statement (.inrR x) := by
  cases x <;> exact encodedLength_of 1 rfl (by decide) rfl
theorem EncodedLength.inrM : EncodedLength.Statement (.inrM) := encodedLength_of 1 rfl (by decide) rfl
theorem EncodedLength.dcrR (x : Reg) : EncodedLength.Statement (.dcrR x) := by
  cases x <;> exact encodedLength_of 1 rfl (by decide) rfl
theorem EncodedLength.dcrM : EncodedLength.Statement (.dcrM) := encodedLength_of 1 rfl (by decide) rfl
theorem EncodedLength.inx (x : Pair) : EncodedLength.Statement (.inx x) := by
  cases x <;> exact encodedLength_of 1 rfl (by decide) rfl
theorem EncodedLength.dcx (x : Pair) : EncodedLength.Statement (.dcx x) := by
  cases x <;> exact encodedLength_of 1 rfl (by decide) rfl
theorem EncodedLength.dad (x : Pair) : EncodedLength.Statement (.dad x) := by
  cases x <;> exact encodedLength_of 1 rfl (by decide) rfl
theorem EncodedLength.daa : EncodedLength.Statement (.daa) := encodedLength_of 1 rfl (by decide) rfl
theorem EncodedLength.anaR (x : Reg) : EncodedLength.Statement (.anaR x) := by
  cases x <;> exact encodedLength_of 1 rfl (by decide) rfl
theorem EncodedLength.anaM : EncodedLength.Statement (.anaM) := encodedLength_of 1 rfl (by decide) rfl
theorem EncodedLength.ani (x : Byte) : EncodedLength.Statement (.ani x) := encodedLength_of 2 rfl (by decide) rfl
theorem EncodedLength.xraR (x : Reg) : EncodedLength.Statement (.xraR x) := by
  cases x <;> exact encodedLength_of 1 rfl (by decide) rfl
theorem EncodedLength.xraM : EncodedLength.Statement (.xraM) := encodedLength_of 1 rfl (by decide) rfl
theorem EncodedLength.xri (x : Byte) : EncodedLength.Statement (.xri x) := encodedLength_of 2 rfl (by decide) rfl
theorem EncodedLength.oraR (x : Reg) : EncodedLength.Statement (.oraR x) := by
  cases x <;> exact encodedLength_of 1 rfl (by decide) rfl
theorem EncodedLength.oraM : EncodedLength.Statement (.oraM) := encodedLength_of 1 rfl (by decide) rfl
theorem EncodedLength.ori (x : Byte) : EncodedLength.Statement (.ori x) := encodedLength_of 2 rfl (by decide) rfl
theorem EncodedLength.cmpR (x : Reg) : EncodedLength.Statement (.cmpR x) := by
  cases x <;> exact encodedLength_of 1 rfl (by decide) rfl
theorem EncodedLength.cmpM : EncodedLength.Statement (.cmpM) := encodedLength_of 1 rfl (by decide) rfl
theorem EncodedLength.cpi (x : Byte) : EncodedLength.Statement (.cpi x) := encodedLength_of 2 rfl (by decide) rfl
theorem EncodedLength.rlc : EncodedLength.Statement (.rlc) := encodedLength_of 1 rfl (by decide) rfl
theorem EncodedLength.rrc : EncodedLength.Statement (.rrc) := encodedLength_of 1 rfl (by decide) rfl
theorem EncodedLength.ral : EncodedLength.Statement (.ral) := encodedLength_of 1 rfl (by decide) rfl
theorem EncodedLength.rar : EncodedLength.Statement (.rar) := encodedLength_of 1 rfl (by decide) rfl
theorem EncodedLength.cma : EncodedLength.Statement (.cma) := encodedLength_of 1 rfl (by decide) rfl
theorem EncodedLength.cmc : EncodedLength.Statement (.cmc) := encodedLength_of 1 rfl (by decide) rfl
theorem EncodedLength.stc : EncodedLength.Statement (.stc) := encodedLength_of 1 rfl (by decide) rfl
theorem EncodedLength.jmp (x : Word) : EncodedLength.Statement (.jmp x) := encodedLength_of 3 rfl (by decide) rfl
theorem EncodedLength.jnz (x : Word) : EncodedLength.Statement (.jnz x) := encodedLength_of 3 rfl (by decide) rfl
theorem EncodedLength.jz (x : Word) : EncodedLength.Statement (.jz x) := encodedLength_of 3 rfl (by decide) rfl
theorem EncodedLength.jnc (x : Word) : EncodedLength.Statement (.jnc x) := encodedLength_of 3 rfl (by decide) rfl
theorem EncodedLength.jc (x : Word) : EncodedLength.Statement (.jc x) := encodedLength_of 3 rfl (by decide) rfl
theorem EncodedLength.jpo (x : Word) : EncodedLength.Statement (.jpo x) := encodedLength_of 3 rfl (by decide) rfl
theorem EncodedLength.jpe (x : Word) : EncodedLength.Statement (.jpe x) := encodedLength_of 3 rfl (by decide) rfl
theorem EncodedLength.jp (x : Word) : EncodedLength.Statement (.jp x) := encodedLength_of 3 rfl (by decide) rfl
theorem EncodedLength.jm (x : Word) : EncodedLength.Statement (.jm x) := encodedLength_of 3 rfl (by decide) rfl
theorem EncodedLength.call (x : Word) : EncodedLength.Statement (.call x) := encodedLength_of 3 rfl (by decide) rfl
theorem EncodedLength.cnz (x : Word) : EncodedLength.Statement (.cnz x) := encodedLength_of 3 rfl (by decide) rfl
theorem EncodedLength.cz (x : Word) : EncodedLength.Statement (.cz x) := encodedLength_of 3 rfl (by decide) rfl
theorem EncodedLength.cnc (x : Word) : EncodedLength.Statement (.cnc x) := encodedLength_of 3 rfl (by decide) rfl
theorem EncodedLength.cc (x : Word) : EncodedLength.Statement (.cc x) := encodedLength_of 3 rfl (by decide) rfl
theorem EncodedLength.cpo (x : Word) : EncodedLength.Statement (.cpo x) := encodedLength_of 3 rfl (by decide) rfl
theorem EncodedLength.cpe (x : Word) : EncodedLength.Statement (.cpe x) := encodedLength_of 3 rfl (by decide) rfl
theorem EncodedLength.cp (x : Word) : EncodedLength.Statement (.cp x) := encodedLength_of 3 rfl (by decide) rfl
theorem EncodedLength.cm (x : Word) : EncodedLength.Statement (.cm x) := encodedLength_of 3 rfl (by decide) rfl
theorem EncodedLength.ret : EncodedLength.Statement (.ret) := encodedLength_of 1 rfl (by decide) rfl
theorem EncodedLength.rnz : EncodedLength.Statement (.rnz) := encodedLength_of 1 rfl (by decide) rfl
theorem EncodedLength.rz : EncodedLength.Statement (.rz) := encodedLength_of 1 rfl (by decide) rfl
theorem EncodedLength.rnc : EncodedLength.Statement (.rnc) := encodedLength_of 1 rfl (by decide) rfl
theorem EncodedLength.rc : EncodedLength.Statement (.rc) := encodedLength_of 1 rfl (by decide) rfl
theorem EncodedLength.rpo : EncodedLength.Statement (.rpo) := encodedLength_of 1 rfl (by decide) rfl
theorem EncodedLength.rpe : EncodedLength.Statement (.rpe) := encodedLength_of 1 rfl (by decide) rfl
theorem EncodedLength.rp : EncodedLength.Statement (.rp) := encodedLength_of 1 rfl (by decide) rfl
theorem EncodedLength.rm : EncodedLength.Statement (.rm) := encodedLength_of 1 rfl (by decide) rfl
theorem EncodedLength.rst (x : BitVec 3) : EncodedLength.Statement (.rst x) := by
  have h : ∀ n : BitVec 3, opLength (withField 0xC7#8 (n.setWidth 8) 3) = 1 := by decide
  exact encodedLength_of 1 rfl (h x) rfl
theorem EncodedLength.pchl : EncodedLength.Statement (.pchl) := encodedLength_of 1 rfl (by decide) rfl
theorem EncodedLength.pushRp (x : StackPair) : EncodedLength.Statement (.pushRp x) := by
  cases x <;> exact encodedLength_of 1 rfl (by decide) rfl
theorem EncodedLength.pushPsw : EncodedLength.Statement (.pushPsw) := encodedLength_of 1 rfl (by decide) rfl
theorem EncodedLength.popRp (x : StackPair) : EncodedLength.Statement (.popRp x) := by
  cases x <;> exact encodedLength_of 1 rfl (by decide) rfl
theorem EncodedLength.popPsw : EncodedLength.Statement (.popPsw) := encodedLength_of 1 rfl (by decide) rfl
theorem EncodedLength.xthl : EncodedLength.Statement (.xthl) := encodedLength_of 1 rfl (by decide) rfl
theorem EncodedLength.sphl : EncodedLength.Statement (.sphl) := encodedLength_of 1 rfl (by decide) rfl
theorem EncodedLength.inPort (x : Byte) : EncodedLength.Statement (.inPort x) := encodedLength_of 2 rfl (by decide) rfl
theorem EncodedLength.outPort (x : Byte) : EncodedLength.Statement (.outPort x) := encodedLength_of 2 rfl (by decide) rfl
theorem EncodedLength.ei : EncodedLength.Statement (.ei) := encodedLength_of 1 rfl (by decide) rfl
theorem EncodedLength.di : EncodedLength.Statement (.di) := encodedLength_of 1 rfl (by decide) rfl
theorem EncodedLength.hlt : EncodedLength.Statement (.hlt) := encodedLength_of 1 rfl (by decide) rfl
theorem EncodedLength.nop : EncodedLength.Statement (.nop) := encodedLength_of 1 rfl (by decide) rfl
theorem EncodedLength.undocNop (x : BitVec 3) : EncodedLength.Statement (.undocNop x) := by
  have h : ∀ n : BitVec 3, opLength (withField 0x00#8 (n.setWidth 8) 3) = 1 := by decide
  exact encodedLength_of 1 rfl (h x) rfl
theorem EncodedLength.undocJmp (x : Word) : EncodedLength.Statement (.undocJmp x) := encodedLength_of 3 rfl (by decide) rfl
theorem EncodedLength.undocRet : EncodedLength.Statement (.undocRet) := encodedLength_of 1 rfl (by decide) rfl
theorem EncodedLength.undocCall (x : BitVec 2) (y : Word) : EncodedLength.Statement (.undocCall x y) := by
  have h : ∀ n : BitVec 2, opLength (withField 0xCD#8 (n.setWidth 8) 4) = 3 := by decide
  exact encodedLength_of 3 rfl (h x) rfl

end Sys2Proof.Laws
end

