-- ==== Sys2Proof/Tests/Slice0.lean ====
section
/-! SUPPORT. Tests. Expected results come from spec/95_test_vectors.md (the vector's id is in a test's name) and, for the bytes of
the instructions, from the *Encoding* entry of each instruction's rule. Last, one witness for each statement with hypotheses. -/

namespace Sys2Proof.Tests

open Sys2Proof.Machine

/-! ### Ill-formed terms are refused -/

theorem test_wf_refuses_nop_as_undocumented : (Instr.undocNop 0#3).wellFormed = false := by decide
theorem test_wf_refuses_call_as_undocumented : (Instr.undocCall 0#2 0x1234#16).wellFormed = false := by decide
theorem test_wf_admits_the_others : (Instr.undocNop 7#3).wellFormed = true ∧ (Instr.undocCall 1#2 0#16).wellFormed = true ∧
    Instr.hlt.wellFormed = true := by decide

/-! ### Decoding: every constructor, from words written out by the encodings of R141 to R284 -/

/-- Whether the bytes decode to the instruction, with nothing left. -/
def reads (bytes : List Byte) (i : Instr) : Bool := decode bytes == .instr i []

theorem test_decode_moves : reads [0b01_111_010#8] (.movRR .a .d) ∧ reads [0b01_101_110#8] (.movRM .l) ∧
    reads [0b01_110_100#8] (.movMR .h) ∧ reads [0b00_011_110#8, 0x9C#8] (.mviR .e 0x9C#8) ∧
    reads [0b00_110_110#8, 0x55#8] (.mviM 0x55#8) ∧ reads [0b11_101_011#8] .xchg := by decide

theorem test_decode_loads_and_stores : reads [0b00_11_0001#8, 0xFE#8, 0x23#8] (.lxi .sp 0x23FE#16) ∧
    reads [0b00_111_010#8, 0x34#8, 0x12#8] (.lda 0x1234#16) ∧ reads [0b00_110_010#8, 0x34#8, 0x12#8] (.sta 0x1234#16) ∧
    reads [0b00_101_010#8, 0x00#8, 0x30#8] (.lhld 0x3000#16) ∧ reads [0b00_100_010#8, 0x00#8, 0x30#8] (.shld 0x3000#16) ∧
    reads [0b00_01_1010#8] (.ldax .de) ∧ reads [0b00_00_0010#8] (.stax .bc) := by decide

theorem test_decode_additions : reads [0b10_000_001#8] (.addR .c) ∧ reads [0b10_000_110#8] .addM ∧
    reads [0b11_000_110#8, 0x42#8] (.adi 0x42#8) ∧ reads [0b10_001_111#8] (.adcR .a) ∧ reads [0b10_001_110#8] .adcM ∧
    reads [0b11_001_110#8, 0xBE#8] (.aci 0xBE#8) := by decide

theorem test_decode_subtractions : reads [0b10_010_000#8] (.subR .b) ∧ reads [0b10_010_110#8] .subM ∧
    reads [0b11_010_110#8, 0x01#8] (.sui 0x01#8) ∧ reads [0b10_011_101#8] (.sbbR .l) ∧ reads [0b10_011_110#8] .sbbM ∧
    reads [0b11_011_110#8, 0x01#8] (.sbi 0x01#8) ∧ reads [0b10_111_011#8] (.cmpR .e) ∧ reads [0b10_111_110#8] .cmpM ∧
    reads [0b11_111_110#8, 0x40#8] (.cpi 0x40#8) := by decide

theorem test_decode_counts : reads [0b00_001_100#8] (.inrR .c) ∧ reads [0b00_110_100#8] .inrM ∧
    reads [0b00_101_101#8] (.dcrR .l) ∧ reads [0b00_110_101#8] .dcrM ∧ reads [0b00_11_0011#8] (.inx .sp) ∧
    reads [0b00_10_1011#8] (.dcx .hl) ∧ reads [0b00_01_1001#8] (.dad .de) ∧ reads [0b00_100_111#8] .daa := by decide

theorem test_decode_logic : reads [0b10_100_001#8] (.anaR .c) ∧ reads [0b10_100_110#8] .anaM ∧
    reads [0b11_100_110#8, 0x0F#8] (.ani 0x0F#8) ∧ reads [0b10_101_111#8] (.xraR .a) ∧ reads [0b10_101_110#8] .xraM ∧
    reads [0b11_101_110#8, 0x81#8] (.xri 0x81#8) ∧ reads [0b10_110_010#8] (.oraR .d) ∧ reads [0b10_110_110#8] .oraM ∧
    reads [0b11_110_110#8, 0x0F#8] (.ori 0x0F#8) := by decide

theorem test_decode_rotates : reads [0b00_000_111#8] .rlc ∧ reads [0b00_001_111#8] .rrc ∧ reads [0b00_010_111#8] .ral ∧
    reads [0b00_011_111#8] .rar ∧ reads [0b00_101_111#8] .cma ∧ reads [0b00_110_111#8] .stc ∧
    reads [0b00_111_111#8] .cmc := by decide

theorem test_decode_jumps : reads [0b11_000_011#8, 0x00#8, 0x3E#8] (.jmp 0x3E00#16) ∧
    reads [0b11_000_010#8, 0x01#8, 0x20#8] (.jnz 0x2001#16) ∧ reads [0b11_001_010#8, 0x01#8, 0x20#8] (.jz 0x2001#16) ∧
    reads [0b11_010_010#8, 0x01#8, 0x20#8] (.jnc 0x2001#16) ∧ reads [0b11_011_010#8, 0x01#8, 0x20#8] (.jc 0x2001#16) ∧
    reads [0b11_100_010#8, 0x01#8, 0x20#8] (.jpo 0x2001#16) ∧ reads [0b11_101_010#8, 0x01#8, 0x20#8] (.jpe 0x2001#16) ∧
    reads [0b11_110_010#8, 0x01#8, 0x20#8] (.jp 0x2001#16) ∧ reads [0b11_111_010#8, 0x01#8, 0x20#8] (.jm 0x2001#16) ∧
    reads [0b11_101_001#8] .pchl := by decide

theorem test_decode_calls : reads [0b11_001_101#8, 0x00#8, 0x20#8] (.call 0x2000#16) ∧
    reads [0b11_000_100#8, 0x01#8, 0x20#8] (.cnz 0x2001#16) ∧ reads [0b11_001_100#8, 0x01#8, 0x20#8] (.cz 0x2001#16) ∧
    reads [0b11_010_100#8, 0x01#8, 0x20#8] (.cnc 0x2001#16) ∧ reads [0b11_011_100#8, 0x01#8, 0x20#8] (.cc 0x2001#16) ∧
    reads [0b11_100_100#8, 0x01#8, 0x20#8] (.cpo 0x2001#16) ∧ reads [0b11_101_100#8, 0x01#8, 0x20#8] (.cpe 0x2001#16) ∧
    reads [0b11_110_100#8, 0x01#8, 0x20#8] (.cp 0x2001#16) ∧ reads [0b11_111_100#8, 0x01#8, 0x20#8] (.cm 0x2001#16) ∧
    reads [0b11_101_111#8] (.rst 5#3) := by decide

theorem test_decode_returns : reads [0b11_001_001#8] .ret ∧ reads [0b11_000_000#8] .rnz ∧ reads [0b11_001_000#8] .rz ∧
    reads [0b11_010_000#8] .rnc ∧ reads [0b11_011_000#8] .rc ∧ reads [0b11_100_000#8] .rpo ∧ reads [0b11_101_000#8] .rpe ∧
    reads [0b11_110_000#8] .rp ∧ reads [0b11_111_000#8] .rm := by decide

theorem test_decode_stack : reads [0b11_01_0101#8] (.pushRp .de) ∧ reads [0b11_11_0101#8] .pushPsw ∧
    reads [0b11_10_0001#8] (.popRp .hl) ∧ reads [0b11_11_0001#8] .popPsw ∧ reads [0b11_100_011#8] .xthl ∧
    reads [0b11_111_001#8] .sphl := by decide

theorem test_decode_control : reads [0b11_011_011#8, 0x10#8] (.inPort 0x10#8) ∧
    reads [0b11_010_011#8, 0x20#8] (.outPort 0x20#8) ∧ reads [0b11_111_011#8] .ei ∧ reads [0b11_110_011#8] .di ∧
    reads [0b01_110_110#8] .hlt ∧ reads [0b00_000_000#8] .nop := by decide

theorem test_decode_undocumented : reads [0b00_001_000#8] (.undocNop 1#3) ∧ reads [0b00_111_000#8] (.undocNop 7#3) ∧
    reads [0b11_001_011#8, 0x00#8, 0x3E#8] (.undocJmp 0x3E00#16) ∧ reads [0b11_011_001#8] .undocRet ∧
    reads [0b11_101_101#8, 0x00#8, 0x20#8] (.undocCall 2#2 0x2000#16) := by decide

theorem test_decode_rejects_short_input : decode [] = .rejected .empty ∧ decode [0xC3#8, 0x00#8] = .rejected .truncated ∧
    decode [0x06#8] = .rejected .truncated := by decide

theorem test_table_word_of_jmp : decodeTableWord 24 0x3E00C3 = some (.jmp 0x3E00#16) := by decide

/-! ### One step -/

/-- The registers A to L. -/
def file (a b c d e h l : Byte) : Regs := { b := b, c := c, d := d, e := e, h := h, l := l, a := a }

/-- The reset state with registers, flag byte, SP, PC and some bytes of memory put in. -/
def start (r : Regs) (f : Byte) (sp pc : Word) (bytes : List (Nat × Byte)) : State :=
  { State.reset with
    regs := r, flags := Flags.ofByte f, sp := sp, pc := pc
    mem := bytes.foldl (fun m e => m.set e.1 e.2) [] }

/-- Whether a state has these registers, flag byte, SP, PC and bytes of memory. -/
def ends (r : Regs) (f : Byte) (sp pc : Word) (bytes : List (Nat × Byte)) (t : State) : Bool :=
  t.regs == r && t.flags.byte == f && t.sp == sp && t.pc == pc && bytes.all fun e => t.mem.get e.1 == e.2

/-- Whether a step answers a state with the property. -/
def runs (s : State) (p : State → Bool) : Bool :=
  match step s with
  | .next t => p t
  | .fault _ => false
  | .refused _ => false

/-- Whether a step is refused, and why. -/
def refusal (s : State) : Option Refusal :=
  match step s with
  | .refused why => some why
  | .next _ => none
  | .fault _ => none

theorem test_T1_mov_b_c : runs (start (file 0x00 0x00 0x5A 0x00 0x00 0x00 0x00) 0x02 0x0000 0x0100 [(0x0100, 0x41)])
    (ends (file 0x00 0x5A 0x5A 0x00 0x00 0x00 0x00) 0x02 0x0000 0x0101 []) = true := by decide
theorem test_T3_mov_a_m : runs (start (file 0x00 0x00 0x00 0x00 0x00 0x20 0x50) 0x02 0x0000 0x0100
    [(0x0100, 0x7E), (0x2050, 0x99)])
    (ends (file 0x99 0x00 0x00 0x00 0x00 0x20 0x50) 0x02 0x0000 0x0101 []) = true := by decide
theorem test_T4_mov_m_a : runs (start (file 0x3C 0x00 0x00 0x00 0x00 0x20 0x50) 0x02 0x0000 0x0100 [(0x0100, 0x77)])
    (ends (file 0x3C 0x00 0x00 0x00 0x00 0x20 0x50) 0x02 0x0000 0x0101 [(0x2050, 0x3C)]) = true := by decide
theorem test_T7_mvi_c_0ffh : runs (start (file 0x00 0x00 0x00 0x00 0x00 0x00 0x00) 0x02 0x0000 0x0100
    [(0x0100, 0x0E), (0x0101, 0xFF)])
    (ends (file 0x00 0x00 0xFF 0x00 0x00 0x00 0x00) 0x02 0x0000 0x0102 []) = true := by decide
theorem test_T8_mvi_m_0 : runs (start (file 0x00 0x00 0x00 0x00 0x00 0x30 0x00) 0x02 0x0000 0x0100
    [(0x0100, 0x36), (0x0101, 0x00), (0x3000, 0xEE)])
    (ends (file 0x00 0x00 0x00 0x00 0x00 0x30 0x00) 0x02 0x0000 0x0102 [(0x3000, 0x00)]) = true := by decide
theorem test_T9_lxi_h_2050h : runs (start (file 0x00 0x00 0x00 0x00 0x00 0x00 0x00) 0x02 0x0000 0x0100
    [(0x0100, 0x21), (0x0101, 0x50), (0x0102, 0x20)])
    (ends (file 0x00 0x00 0x00 0x00 0x00 0x20 0x50) 0x02 0x0000 0x0103 []) = true := by decide
theorem test_T10_lxi_sp_0 : runs (start (file 0x00 0x00 0x00 0x00 0x00 0x00 0x00) 0x02 0x1234 0x0100
    [(0x0100, 0x31), (0x0101, 0x00), (0x0102, 0x00)])
    (ends (file 0x00 0x00 0x00 0x00 0x00 0x00 0x00) 0x02 0x0000 0x0103 []) = true := by decide
theorem test_T12_lda_1234h : runs (start (file 0x00 0x00 0x00 0x00 0x00 0x00 0x00) 0x02 0x0000 0x0100
    [(0x0100, 0x3A), (0x0101, 0x34), (0x0102, 0x12), (0x1234, 0x77)])
    (ends (file 0x77 0x00 0x00 0x00 0x00 0x00 0x00) 0x02 0x0000 0x0103 []) = true := by decide
theorem test_T23_lda_2000h : runs (start (file 0x00 0x00 0x00 0x00 0x00 0x00 0x00) 0x02 0x0000 0xFFFE
    [(0xFFFE, 0x3A), (0xFFFF, 0x00), (0x0000, 0x20), (0x2000, 0x42)])
    (ends (file 0x42 0x00 0x00 0x00 0x00 0x00 0x00) 0x02 0x0000 0x0001 []) = true := by decide
theorem test_T13_sta_1234h : runs (start (file 0x0F 0x00 0x00 0x00 0x00 0x00 0x00) 0x02 0x0000 0x0100
    [(0x0100, 0x32), (0x0101, 0x34), (0x0102, 0x12)])
    (ends (file 0x0F 0x00 0x00 0x00 0x00 0x00 0x00) 0x02 0x0000 0x0103 [(0x1234, 0x0F)]) = true := by decide
theorem test_T15_lhld_0ffffh : runs (start (file 0x00 0x00 0x00 0x00 0x00 0x00 0x00) 0x02 0x0000 0x0100
    [(0x0100, 0x2A), (0x0101, 0xFF), (0x0102, 0xFF), (0xFFFF, 0x11), (0x0000, 0x22)])
    (ends (file 0x00 0x00 0x00 0x00 0x00 0x22 0x11) 0x02 0x0000 0x0103 []) = true := by decide
theorem test_T17_shld_0ffffh : runs (start (file 0x00 0x00 0x00 0x00 0x00 0xAB 0xCD) 0x02 0x0000 0x0100
    [(0x0100, 0x22), (0x0101, 0xFF), (0x0102, 0xFF)])
    (ends (file 0x00 0x00 0x00 0x00 0x00 0xAB 0xCD) 0x02 0x0000 0x0103
    [(0x0000, 0xAB), (0xFFFF, 0xCD)]) = true := by decide
theorem test_T18_ldax_d : runs (start (file 0x00 0x00 0x00 0x40 0x00 0x00 0x00) 0x02 0x0000 0x0100
    [(0x0100, 0x1A), (0x4000, 0x11)])
    (ends (file 0x11 0x00 0x00 0x40 0x00 0x00 0x00) 0x02 0x0000 0x0101 []) = true := by decide
theorem test_T20_stax_b : runs (start (file 0x22 0x41 0x00 0x00 0x00 0x00 0x00) 0x02 0x0000 0x0100 [(0x0100, 0x02)])
    (ends (file 0x22 0x41 0x00 0x00 0x00 0x00 0x00) 0x02 0x0000 0x0101 [(0x4100, 0x22)]) = true := by decide
theorem test_T22_xchg : runs (start (file 0x00 0x00 0x00 0xAB 0xCD 0x12 0x34) 0x02 0x0000 0x0100 [(0x0100, 0xEB)])
    (ends (file 0x00 0x00 0x00 0x12 0x34 0xAB 0xCD) 0x02 0x0000 0x0101 []) = true := by decide
theorem test_A1_add_b : runs (start (file 0x6C 0x2E 0x00 0x00 0x00 0x00 0x00) 0x02 0x0000 0x0100 [(0x0100, 0x80)])
    (ends (file 0x9A 0x2E 0x00 0x00 0x00 0x00 0x00) 0x96 0x0000 0x0101 []) = true := by decide
theorem test_A4_add_m : runs (start (file 0xFF 0x00 0x00 0x00 0x00 0x20 0x00) 0x02 0x0000 0x0100
    [(0x0100, 0x86), (0x2000, 0x01)])
    (ends (file 0x00 0x00 0x00 0x00 0x00 0x20 0x00) 0x57 0x0000 0x0101 []) = true := by decide
theorem test_A6_adi_0 : runs (start (file 0x00 0x00 0x00 0x00 0x00 0x00 0x00) 0xD7 0x0000 0x0100
    [(0x0100, 0xC6), (0x0101, 0x00)])
    (ends (file 0x00 0x00 0x00 0x00 0x00 0x00 0x00) 0x46 0x0000 0x0102 []) = true := by decide
theorem test_A8_adc_c : runs (start (file 0x42 0x00 0x3D 0x00 0x00 0x00 0x00) 0x03 0x0000 0x0100 [(0x0100, 0x89)])
    (ends (file 0x80 0x00 0x3D 0x00 0x00 0x00 0x00) 0x92 0x0000 0x0101 []) = true := by decide
theorem test_A10_adc_m : runs (start (file 0x0F 0x00 0x00 0x00 0x00 0x20 0x00) 0x03 0x0000 0x0100
    [(0x0100, 0x8E), (0x2000, 0xF0)])
    (ends (file 0x00 0x00 0x00 0x00 0x00 0x20 0x00) 0x57 0x0000 0x0101 []) = true := by decide
theorem test_A11_aci_0beh : runs (start (file 0x56 0x00 0x00 0x00 0x00 0x00 0x00) 0x02 0x0000 0x0100
    [(0x0100, 0xCE), (0x0101, 0xBE)])
    (ends (file 0x14 0x00 0x00 0x00 0x00 0x00 0x00) 0x17 0x0000 0x0102 []) = true := by decide
theorem test_A13_sub_a : runs (start (file 0x3E 0x00 0x00 0x00 0x00 0x00 0x00) 0x02 0x0000 0x0100 [(0x0100, 0x97)])
    (ends (file 0x00 0x00 0x00 0x00 0x00 0x00 0x00) 0x56 0x0000 0x0101 []) = true := by decide
theorem test_A14_sub_b : runs (start (file 0x00 0x01 0x00 0x00 0x00 0x00 0x00) 0x02 0x0000 0x0100 [(0x0100, 0x90)])
    (ends (file 0xFF 0x01 0x00 0x00 0x00 0x00 0x00) 0x87 0x0000 0x0101 []) = true := by decide
theorem test_A16_sub_m : runs (start (file 0x50 0x00 0x00 0x00 0x00 0x20 0x00) 0x02 0x0000 0x0100
    [(0x0100, 0x96), (0x2000, 0x0F)])
    (ends (file 0x41 0x00 0x00 0x00 0x00 0x20 0x00) 0x06 0x0000 0x0101 []) = true := by decide
theorem test_A17_sui_1 : runs (start (file 0x00 0x00 0x00 0x00 0x00 0x00 0x00) 0x02 0x0000 0x0100
    [(0x0100, 0xD6), (0x0101, 0x01)])
    (ends (file 0xFF 0x00 0x00 0x00 0x00 0x00 0x00) 0x87 0x0000 0x0102 []) = true := by decide
theorem test_A19_sbb_l : runs (start (file 0x04 0x00 0x00 0x00 0x00 0x00 0x02) 0x03 0x0000 0x0100 [(0x0100, 0x9D)])
    (ends (file 0x01 0x00 0x00 0x00 0x00 0x00 0x02) 0x12 0x0000 0x0101 []) = true := by decide
theorem test_A20_sbb_b : runs (start (file 0x00 0xFF 0x00 0x00 0x00 0x00 0x00) 0x03 0x0000 0x0100 [(0x0100, 0x98)])
    (ends (file 0x00 0xFF 0x00 0x00 0x00 0x00 0x00) 0x47 0x0000 0x0101 []) = true := by decide
theorem test_A21_sbb_m : runs (start (file 0x10 0x00 0x00 0x00 0x00 0x20 0x00) 0x03 0x0000 0x0100
    [(0x0100, 0x9E), (0x2000, 0x10)])
    (ends (file 0xFF 0x00 0x00 0x00 0x00 0x20 0x00) 0x87 0x0000 0x0101 []) = true := by decide
theorem test_A23_sbi_1 : runs (start (file 0x00 0x00 0x00 0x00 0x00 0x00 0x00) 0x03 0x0000 0x0100
    [(0x0100, 0xDE), (0x0101, 0x01)])
    (ends (file 0xFE 0x00 0x00 0x00 0x00 0x00 0x00) 0x83 0x0000 0x0102 []) = true := by decide
theorem test_A26_inr_a : runs (start (file 0xFF 0x00 0x00 0x00 0x00 0x00 0x00) 0x03 0x0000 0x0100 [(0x0100, 0x3C)])
    (ends (file 0x00 0x00 0x00 0x00 0x00 0x00 0x00) 0x57 0x0000 0x0101 []) = true := by decide
theorem test_A27_inr_b : runs (start (file 0x00 0x7F 0x00 0x00 0x00 0x00 0x00) 0x02 0x0000 0x0100 [(0x0100, 0x04)])
    (ends (file 0x00 0x80 0x00 0x00 0x00 0x00 0x00) 0x92 0x0000 0x0101 []) = true := by decide
theorem test_A28_inr_m : runs (start (file 0x00 0x00 0x00 0x00 0x00 0x20 0x00) 0x02 0x0000 0x0100
    [(0x0100, 0x34), (0x2000, 0x7F)])
    (ends (file 0x00 0x00 0x00 0x00 0x00 0x20 0x00) 0x92 0x0000 0x0101 [(0x2000, 0x80)]) = true := by decide
theorem test_A30_dcr_b : runs (start (file 0x00 0x01 0x00 0x00 0x00 0x00 0x00) 0x03 0x0000 0x0100 [(0x0100, 0x05)])
    (ends (file 0x00 0x00 0x00 0x00 0x00 0x00 0x00) 0x57 0x0000 0x0101 []) = true := by decide
theorem test_A31_dcr_b : runs (start (file 0x00 0x10 0x00 0x00 0x00 0x00 0x00) 0x02 0x0000 0x0100 [(0x0100, 0x05)])
    (ends (file 0x00 0x0F 0x00 0x00 0x00 0x00 0x00) 0x06 0x0000 0x0101 []) = true := by decide
theorem test_A33_dcr_m : runs (start (file 0x00 0x00 0x00 0x00 0x00 0x3A 0x7C) 0x02 0x0000 0x0100
    [(0x0100, 0x35), (0x3A7C, 0x40)])
    (ends (file 0x00 0x00 0x00 0x00 0x00 0x3A 0x7C) 0x06 0x0000 0x0101 [(0x3A7C, 0x3F)]) = true := by decide
theorem test_A34_inx_d : runs (start (file 0x00 0x00 0x00 0x38 0xFF 0x00 0x00) 0x02 0x0000 0x0100 [(0x0100, 0x13)])
    (ends (file 0x00 0x00 0x00 0x39 0x00 0x00 0x00) 0x02 0x0000 0x0101 []) = true := by decide
theorem test_A35_inx_sp : runs (start (file 0x00 0x00 0x00 0x00 0x00 0x00 0x00) 0x02 0xFFFF 0x0100 [(0x0100, 0x33)])
    (ends (file 0x00 0x00 0x00 0x00 0x00 0x00 0x00) 0x02 0x0000 0x0101 []) = true := by decide
theorem test_A37_dcx_h : runs (start (file 0x00 0x00 0x00 0x00 0x00 0x98 0x00) 0x02 0x0000 0x0100 [(0x0100, 0x2B)])
    (ends (file 0x00 0x00 0x00 0x00 0x00 0x97 0xFF) 0x02 0x0000 0x0101 []) = true := by decide
theorem test_A39_dcx_sp : runs (start (file 0x00 0x00 0x00 0x00 0x00 0x00 0x00) 0x02 0x0000 0x0100 [(0x0100, 0x3B)])
    (ends (file 0x00 0x00 0x00 0x00 0x00 0x00 0x00) 0x02 0xFFFF 0x0101 []) = true := by decide
theorem test_A40_dad_b : runs (start (file 0x00 0x33 0x9F 0x00 0x00 0xA1 0x7B) 0x02 0x0000 0x0100 [(0x0100, 0x09)])
    (ends (file 0x00 0x33 0x9F 0x00 0x00 0xD5 0x1A) 0x02 0x0000 0x0101 []) = true := by decide
theorem test_A42_dad_sp : runs (start (file 0x00 0x00 0x00 0x00 0x00 0x00 0x01) 0xD6 0xFFFF 0x0100 [(0x0100, 0x39)])
    (ends (file 0x00 0x00 0x00 0x00 0x00 0x00 0x00) 0xD7 0xFFFF 0x0101 []) = true := by decide
theorem test_A44_daa : runs (start (file 0x9B 0x00 0x00 0x00 0x00 0x00 0x00) 0x02 0x0000 0x0100 [(0x0100, 0x27)])
    (ends (file 0x01 0x00 0x00 0x00 0x00 0x00 0x00) 0x13 0x0000 0x0101 []) = true := by decide
theorem test_A50_daa : runs (start (file 0x99 0x00 0x00 0x00 0x00 0x00 0x00) 0x13 0x0000 0x0100 [(0x0100, 0x27)])
    (ends (file 0xFF 0x00 0x00 0x00 0x00 0x00 0x00) 0x87 0x0000 0x0101 []) = true := by decide
theorem test_G1_ana_c : runs (start (file 0xFC 0x00 0x0F 0x00 0x00 0x00 0x00) 0x02 0x0000 0x0100 [(0x0100, 0xA1)])
    (ends (file 0x0C 0x00 0x0F 0x00 0x00 0x00 0x00) 0x16 0x0000 0x0101 []) = true := by decide
theorem test_G3_ana_a : runs (start (file 0x08 0x00 0x00 0x00 0x00 0x00 0x00) 0x03 0x0000 0x0100 [(0x0100, 0xA7)])
    (ends (file 0x08 0x00 0x00 0x00 0x00 0x00 0x00) 0x12 0x0000 0x0101 []) = true := by decide
theorem test_G5_ana_m : runs (start (file 0xFF 0x00 0x00 0x00 0x00 0x20 0x00) 0x03 0x0000 0x0100
    [(0x0100, 0xA6), (0x2000, 0x80)])
    (ends (file 0x80 0x00 0x00 0x00 0x00 0x20 0x00) 0x92 0x0000 0x0101 []) = true := by decide
theorem test_G7_ani_0f0h : runs (start (file 0x33 0x00 0x00 0x00 0x00 0x00 0x00) 0x02 0x0000 0x0100
    [(0x0100, 0xE6), (0x0101, 0xF0)])
    (ends (file 0x30 0x00 0x00 0x00 0x00 0x00 0x00) 0x06 0x0000 0x0102 []) = true := by decide
theorem test_G9_xra_b : runs (start (file 0xFF 0x0F 0x00 0x00 0x00 0x00 0x00) 0x13 0x0000 0x0100 [(0x0100, 0xA8)])
    (ends (file 0xF0 0x0F 0x00 0x00 0x00 0x00 0x00) 0x86 0x0000 0x0101 []) = true := by decide
theorem test_G10_xra_m : runs (start (file 0x5C 0x00 0x00 0x00 0x00 0x20 0x00) 0x02 0x0000 0x0100
    [(0x0100, 0xAE), (0x2000, 0x78)])
    (ends (file 0x24 0x00 0x00 0x00 0x00 0x20 0x00) 0x06 0x0000 0x0101 []) = true := by decide
theorem test_G11_xri_81h : runs (start (file 0x3B 0x00 0x00 0x00 0x00 0x00 0x00) 0x03 0x0000 0x0100
    [(0x0100, 0xEE), (0x0101, 0x81)])
    (ends (file 0xBA 0x00 0x00 0x00 0x00 0x00 0x00) 0x82 0x0000 0x0102 []) = true := by decide
theorem test_G12_ora_c : runs (start (file 0x33 0x00 0x0F 0x00 0x00 0x00 0x00) 0x13 0x0000 0x0100 [(0x0100, 0xB1)])
    (ends (file 0x3F 0x00 0x0F 0x00 0x00 0x00 0x00) 0x06 0x0000 0x0101 []) = true := by decide
theorem test_G14_ora_m : runs (start (file 0x80 0x00 0x00 0x00 0x00 0x20 0x00) 0x02 0x0000 0x0100
    [(0x0100, 0xB6), (0x2000, 0x01)])
    (ends (file 0x81 0x00 0x00 0x00 0x00 0x20 0x00) 0x86 0x0000 0x0101 []) = true := by decide
theorem test_G15_ori_0fh : runs (start (file 0xB5 0x00 0x00 0x00 0x00 0x00 0x00) 0x03 0x0000 0x0100
    [(0x0100, 0xF6), (0x0101, 0x0F)])
    (ends (file 0xBF 0x00 0x00 0x00 0x00 0x00 0x00) 0x82 0x0000 0x0102 []) = true := by decide
theorem test_G16_cmp_e : runs (start (file 0x0A 0x00 0x00 0x00 0x05 0x00 0x00) 0x02 0x0000 0x0100 [(0x0100, 0xBB)])
    (ends (file 0x0A 0x00 0x00 0x00 0x05 0x00 0x00) 0x16 0x0000 0x0101 []) = true := by decide
theorem test_G17_cmp_e : runs (start (file 0x02 0x00 0x00 0x00 0x05 0x00 0x00) 0x02 0x0000 0x0100 [(0x0100, 0xBB)])
    (ends (file 0x02 0x00 0x00 0x00 0x05 0x00 0x00) 0x83 0x0000 0x0101 []) = true := by decide
theorem test_G20_cmp_m : runs (start (file 0x10 0x00 0x00 0x00 0x00 0x20 0x00) 0x02 0x0000 0x0100
    [(0x0100, 0xBE), (0x2000, 0x10)])
    (ends (file 0x10 0x00 0x00 0x00 0x00 0x20 0x00) 0x56 0x0000 0x0101 []) = true := by decide
theorem test_G22_cpi_80h : runs (start (file 0x00 0x00 0x00 0x00 0x00 0x00 0x00) 0x02 0x0000 0x0100
    [(0x0100, 0xFE), (0x0101, 0x80)])
    (ends (file 0x00 0x00 0x00 0x00 0x00 0x00 0x00) 0x93 0x0000 0x0102 []) = true := by decide
theorem test_G23_rlc : runs (start (file 0xF2 0x00 0x00 0x00 0x00 0x00 0x00) 0x02 0x0000 0x0100 [(0x0100, 0x07)])
    (ends (file 0xE5 0x00 0x00 0x00 0x00 0x00 0x00) 0x03 0x0000 0x0101 []) = true := by decide
theorem test_G24_rlc : runs (start (file 0x00 0x00 0x00 0x00 0x00 0x00 0x00) 0xD7 0x0000 0x0100 [(0x0100, 0x07)])
    (ends (file 0x00 0x00 0x00 0x00 0x00 0x00 0x00) 0xD6 0x0000 0x0101 []) = true := by decide
theorem test_G25_rrc : runs (start (file 0xF2 0x00 0x00 0x00 0x00 0x00 0x00) 0x03 0x0000 0x0100 [(0x0100, 0x0F)])
    (ends (file 0x79 0x00 0x00 0x00 0x00 0x00 0x00) 0x02 0x0000 0x0101 []) = true := by decide
theorem test_G27_ral : runs (start (file 0xB5 0x00 0x00 0x00 0x00 0x00 0x00) 0x02 0x0000 0x0100 [(0x0100, 0x17)])
    (ends (file 0x6A 0x00 0x00 0x00 0x00 0x00 0x00) 0x03 0x0000 0x0101 []) = true := by decide
theorem test_G28_ral : runs (start (file 0x00 0x00 0x00 0x00 0x00 0x00 0x00) 0x03 0x0000 0x0100 [(0x0100, 0x17)])
    (ends (file 0x01 0x00 0x00 0x00 0x00 0x00 0x00) 0x02 0x0000 0x0101 []) = true := by decide
theorem test_G29_rar : runs (start (file 0x6A 0x00 0x00 0x00 0x00 0x00 0x00) 0x03 0x0000 0x0100 [(0x0100, 0x1F)])
    (ends (file 0xB5 0x00 0x00 0x00 0x00 0x00 0x00) 0x02 0x0000 0x0101 []) = true := by decide
theorem test_G30_rar : runs (start (file 0x01 0x00 0x00 0x00 0x00 0x00 0x00) 0x02 0x0000 0x0100 [(0x0100, 0x1F)])
    (ends (file 0x00 0x00 0x00 0x00 0x00 0x00 0x00) 0x03 0x0000 0x0101 []) = true := by decide
theorem test_G31_cma : runs (start (file 0x51 0x00 0x00 0x00 0x00 0x00 0x00) 0xD7 0x0000 0x0100 [(0x0100, 0x2F)])
    (ends (file 0xAE 0x00 0x00 0x00 0x00 0x00 0x00) 0xD7 0x0000 0x0101 []) = true := by decide
theorem test_G32_cmc : runs (start (file 0x00 0x00 0x00 0x00 0x00 0x00 0x00) 0x02 0x0000 0x0100 [(0x0100, 0x3F)])
    (ends (file 0x00 0x00 0x00 0x00 0x00 0x00 0x00) 0x03 0x0000 0x0101 []) = true := by decide
theorem test_G33_cmc : runs (start (file 0x00 0x00 0x00 0x00 0x00 0x00 0x00) 0xD7 0x0000 0x0100 [(0x0100, 0x3F)])
    (ends (file 0x00 0x00 0x00 0x00 0x00 0x00 0x00) 0xD6 0x0000 0x0101 []) = true := by decide
theorem test_G34_stc : runs (start (file 0x00 0x00 0x00 0x00 0x00 0x00 0x00) 0x02 0x0000 0x0100 [(0x0100, 0x37)])
    (ends (file 0x00 0x00 0x00 0x00 0x00 0x00 0x00) 0x03 0x0000 0x0101 []) = true := by decide
theorem test_B1_jmp_3e00h : runs (start (file 0x00 0x00 0x00 0x00 0x00 0x00 0x00) 0x02 0x0000 0x0100
    [(0x0100, 0xC3), (0x0101, 0x00), (0x0102, 0x3E)])
    (ends (file 0x00 0x00 0x00 0x00 0x00 0x00 0x00) 0x02 0x0000 0x3E00 []) = true := by decide
theorem test_B3_jnz_2000h : runs (start (file 0x00 0x00 0x00 0x00 0x00 0x00 0x00) 0x02 0x0000 0x0100
    [(0x0100, 0xC2), (0x0101, 0x00), (0x0102, 0x20)])
    (ends (file 0x00 0x00 0x00 0x00 0x00 0x00 0x00) 0x02 0x0000 0x2000 []) = true := by decide
theorem test_B4_jnz_2000h : runs (start (file 0x00 0x00 0x00 0x00 0x00 0x00 0x00) 0x42 0x0000 0x0100
    [(0x0100, 0xC2), (0x0101, 0x00), (0x0102, 0x20)])
    (ends (file 0x00 0x00 0x00 0x00 0x00 0x00 0x00) 0x42 0x0000 0x0103 []) = true := by decide
theorem test_B5_jz_2000h : runs (start (file 0x00 0x00 0x00 0x00 0x00 0x00 0x00) 0x42 0x0000 0x0100
    [(0x0100, 0xCA), (0x0101, 0x00), (0x0102, 0x20)])
    (ends (file 0x00 0x00 0x00 0x00 0x00 0x00 0x00) 0x42 0x0000 0x2000 []) = true := by decide
theorem test_B7_jnc_2000h : runs (start (file 0x00 0x00 0x00 0x00 0x00 0x00 0x00) 0x02 0x0000 0x0100
    [(0x0100, 0xD2), (0x0101, 0x00), (0x0102, 0x20)])
    (ends (file 0x00 0x00 0x00 0x00 0x00 0x00 0x00) 0x02 0x0000 0x2000 []) = true := by decide
theorem test_B9_jc_2000h : runs (start (file 0x00 0x00 0x00 0x00 0x00 0x00 0x00) 0x03 0x0000 0x0100
    [(0x0100, 0xDA), (0x0101, 0x00), (0x0102, 0x20)])
    (ends (file 0x00 0x00 0x00 0x00 0x00 0x00 0x00) 0x03 0x0000 0x2000 []) = true := by decide
theorem test_B11_jpo_2000h : runs (start (file 0x00 0x00 0x00 0x00 0x00 0x00 0x00) 0x02 0x0000 0x0100
    [(0x0100, 0xE2), (0x0101, 0x00), (0x0102, 0x20)])
    (ends (file 0x00 0x00 0x00 0x00 0x00 0x00 0x00) 0x02 0x0000 0x2000 []) = true := by decide
theorem test_B13_jpe_2000h : runs (start (file 0x00 0x00 0x00 0x00 0x00 0x00 0x00) 0x06 0x0000 0x0100
    [(0x0100, 0xEA), (0x0101, 0x00), (0x0102, 0x20)])
    (ends (file 0x00 0x00 0x00 0x00 0x00 0x00 0x00) 0x06 0x0000 0x2000 []) = true := by decide
theorem test_B15_jp_2000h : runs (start (file 0x00 0x00 0x00 0x00 0x00 0x00 0x00) 0x02 0x0000 0x0100
    [(0x0100, 0xF2), (0x0101, 0x00), (0x0102, 0x20)])
    (ends (file 0x00 0x00 0x00 0x00 0x00 0x00 0x00) 0x02 0x0000 0x2000 []) = true := by decide
theorem test_B17_jm_2000h : runs (start (file 0x00 0x00 0x00 0x00 0x00 0x00 0x00) 0x82 0x0000 0x0100
    [(0x0100, 0xFA), (0x0101, 0x00), (0x0102, 0x20)])
    (ends (file 0x00 0x00 0x00 0x00 0x00 0x00 0x00) 0x82 0x0000 0x2000 []) = true := by decide
theorem test_B19_call_2000h : runs (start (file 0x00 0x00 0x00 0x00 0x00 0x00 0x00) 0x02 0x3000 0x1000
    [(0x1000, 0xCD), (0x1001, 0x00), (0x1002, 0x20)])
    (ends (file 0x00 0x00 0x00 0x00 0x00 0x00 0x00) 0x02 0x2FFE 0x2000
    [(0x2FFE, 0x03), (0x2FFF, 0x10)]) = true := by decide
theorem test_B20_call_2000h : runs (start (file 0x00 0x00 0x00 0x00 0x00 0x00 0x00) 0x02 0x0001 0x1000
    [(0x1000, 0xCD), (0x1001, 0x00), (0x1002, 0x20)])
    (ends (file 0x00 0x00 0x00 0x00 0x00 0x00 0x00) 0x02 0xFFFF 0x2000
    [(0x0000, 0x10), (0xFFFF, 0x03)]) = true := by decide
theorem test_B22_cnz_2000h : runs (start (file 0x00 0x00 0x00 0x00 0x00 0x00 0x00) 0x02 0x3000 0x1000
    [(0x1000, 0xC4), (0x1001, 0x00), (0x1002, 0x20)])
    (ends (file 0x00 0x00 0x00 0x00 0x00 0x00 0x00) 0x02 0x2FFE 0x2000
    [(0x2FFE, 0x03), (0x2FFF, 0x10)]) = true := by decide
theorem test_B23_cnz_2000h : runs (start (file 0x00 0x00 0x00 0x00 0x00 0x00 0x00) 0x42 0x3000 0x1000
    [(0x1000, 0xC4), (0x1001, 0x00), (0x1002, 0x20)])
    (ends (file 0x00 0x00 0x00 0x00 0x00 0x00 0x00) 0x42 0x3000 0x1003 []) = true := by decide
theorem test_B24_cz_2000h : runs (start (file 0x00 0x00 0x00 0x00 0x00 0x00 0x00) 0x42 0x3000 0x1000
    [(0x1000, 0xCC), (0x1001, 0x00), (0x1002, 0x20)])
    (ends (file 0x00 0x00 0x00 0x00 0x00 0x00 0x00) 0x42 0x2FFE 0x2000
    [(0x2FFE, 0x03), (0x2FFF, 0x10)]) = true := by decide
theorem test_B26_cnc_2000h : runs (start (file 0x00 0x00 0x00 0x00 0x00 0x00 0x00) 0x02 0x3000 0x1000
    [(0x1000, 0xD4), (0x1001, 0x00), (0x1002, 0x20)])
    (ends (file 0x00 0x00 0x00 0x00 0x00 0x00 0x00) 0x02 0x2FFE 0x2000
    [(0x2FFE, 0x03), (0x2FFF, 0x10)]) = true := by decide
theorem test_B28_cc_2000h : runs (start (file 0x00 0x00 0x00 0x00 0x00 0x00 0x00) 0x03 0x3000 0x1000
    [(0x1000, 0xDC), (0x1001, 0x00), (0x1002, 0x20)])
    (ends (file 0x00 0x00 0x00 0x00 0x00 0x00 0x00) 0x03 0x2FFE 0x2000
    [(0x2FFE, 0x03), (0x2FFF, 0x10)]) = true := by decide
theorem test_B30_cpo_2000h : runs (start (file 0x00 0x00 0x00 0x00 0x00 0x00 0x00) 0x02 0x3000 0x1000
    [(0x1000, 0xE4), (0x1001, 0x00), (0x1002, 0x20)])
    (ends (file 0x00 0x00 0x00 0x00 0x00 0x00 0x00) 0x02 0x2FFE 0x2000
    [(0x2FFE, 0x03), (0x2FFF, 0x10)]) = true := by decide
theorem test_B32_cpe_2000h : runs (start (file 0x00 0x00 0x00 0x00 0x00 0x00 0x00) 0x06 0x3000 0x1000
    [(0x1000, 0xEC), (0x1001, 0x00), (0x1002, 0x20)])
    (ends (file 0x00 0x00 0x00 0x00 0x00 0x00 0x00) 0x06 0x2FFE 0x2000
    [(0x2FFE, 0x03), (0x2FFF, 0x10)]) = true := by decide
theorem test_B34_cp_2000h : runs (start (file 0x00 0x00 0x00 0x00 0x00 0x00 0x00) 0x02 0x3000 0x1000
    [(0x1000, 0xF4), (0x1001, 0x00), (0x1002, 0x20)])
    (ends (file 0x00 0x00 0x00 0x00 0x00 0x00 0x00) 0x02 0x2FFE 0x2000
    [(0x2FFE, 0x03), (0x2FFF, 0x10)]) = true := by decide
theorem test_B36_cm_2000h : runs (start (file 0x00 0x00 0x00 0x00 0x00 0x00 0x00) 0x82 0x3000 0x1000
    [(0x1000, 0xFC), (0x1001, 0x00), (0x1002, 0x20)])
    (ends (file 0x00 0x00 0x00 0x00 0x00 0x00 0x00) 0x82 0x2FFE 0x2000
    [(0x2FFE, 0x03), (0x2FFF, 0x10)]) = true := by decide
theorem test_B38_ret : runs (start (file 0x00 0x00 0x00 0x00 0x00 0x00 0x00) 0x02 0x2FFE 0x2000
    [(0x2000, 0xC9), (0x2FFE, 0x03), (0x2FFF, 0x10)])
    (ends (file 0x00 0x00 0x00 0x00 0x00 0x00 0x00) 0x02 0x3000 0x1003 []) = true := by decide
theorem test_B39_ret : runs (start (file 0x00 0x00 0x00 0x00 0x00 0x00 0x00) 0x02 0xFFFF 0x2000
    [(0x2000, 0xC9), (0xFFFF, 0x34), (0x0000, 0x12)])
    (ends (file 0x00 0x00 0x00 0x00 0x00 0x00 0x00) 0x02 0x0001 0x1234 []) = true := by decide
theorem test_B40_rnz : runs (start (file 0x00 0x00 0x00 0x00 0x00 0x00 0x00) 0x02 0x2FFE 0x2000
    [(0x2000, 0xC0), (0x2FFE, 0x03), (0x2FFF, 0x10)])
    (ends (file 0x00 0x00 0x00 0x00 0x00 0x00 0x00) 0x02 0x3000 0x1003 []) = true := by decide
theorem test_B41_rnz : runs (start (file 0x00 0x00 0x00 0x00 0x00 0x00 0x00) 0x42 0x2FFE 0x2000
    [(0x2000, 0xC0), (0x2FFE, 0x03), (0x2FFF, 0x10)])
    (ends (file 0x00 0x00 0x00 0x00 0x00 0x00 0x00) 0x42 0x2FFE 0x2001 []) = true := by decide
theorem test_B42_rz : runs (start (file 0x00 0x00 0x00 0x00 0x00 0x00 0x00) 0x42 0x2FFE 0x2000
    [(0x2000, 0xC8), (0x2FFE, 0x03), (0x2FFF, 0x10)])
    (ends (file 0x00 0x00 0x00 0x00 0x00 0x00 0x00) 0x42 0x3000 0x1003 []) = true := by decide
theorem test_B44_rnc : runs (start (file 0x00 0x00 0x00 0x00 0x00 0x00 0x00) 0x02 0x2FFE 0x2000
    [(0x2000, 0xD0), (0x2FFE, 0x03), (0x2FFF, 0x10)])
    (ends (file 0x00 0x00 0x00 0x00 0x00 0x00 0x00) 0x02 0x3000 0x1003 []) = true := by decide
theorem test_B46_rc : runs (start (file 0x00 0x00 0x00 0x00 0x00 0x00 0x00) 0x03 0x2FFE 0x2000
    [(0x2000, 0xD8), (0x2FFE, 0x03), (0x2FFF, 0x10)])
    (ends (file 0x00 0x00 0x00 0x00 0x00 0x00 0x00) 0x03 0x3000 0x1003 []) = true := by decide
theorem test_B48_rpo : runs (start (file 0x00 0x00 0x00 0x00 0x00 0x00 0x00) 0x02 0x2FFE 0x2000
    [(0x2000, 0xE0), (0x2FFE, 0x03), (0x2FFF, 0x10)])
    (ends (file 0x00 0x00 0x00 0x00 0x00 0x00 0x00) 0x02 0x3000 0x1003 []) = true := by decide
theorem test_B50_rpe : runs (start (file 0x00 0x00 0x00 0x00 0x00 0x00 0x00) 0x06 0x2FFE 0x2000
    [(0x2000, 0xE8), (0x2FFE, 0x03), (0x2FFF, 0x10)])
    (ends (file 0x00 0x00 0x00 0x00 0x00 0x00 0x00) 0x06 0x3000 0x1003 []) = true := by decide
theorem test_B52_rp : runs (start (file 0x00 0x00 0x00 0x00 0x00 0x00 0x00) 0x02 0x2FFE 0x2000
    [(0x2000, 0xF0), (0x2FFE, 0x03), (0x2FFF, 0x10)])
    (ends (file 0x00 0x00 0x00 0x00 0x00 0x00 0x00) 0x02 0x3000 0x1003 []) = true := by decide
theorem test_B54_rm : runs (start (file 0x00 0x00 0x00 0x00 0x00 0x00 0x00) 0x82 0x2FFE 0x2000
    [(0x2000, 0xF8), (0x2FFE, 0x03), (0x2FFF, 0x10)])
    (ends (file 0x00 0x00 0x00 0x00 0x00 0x00 0x00) 0x82 0x3000 0x1003 []) = true := by decide
theorem test_B58_rst_2 : runs (start (file 0x00 0x00 0x00 0x00 0x00 0x00 0x00) 0x02 0x3000 0x1234 [(0x1234, 0xD7)])
    (ends (file 0x00 0x00 0x00 0x00 0x00 0x00 0x00) 0x02 0x2FFE 0x0010
    [(0x2FFE, 0x35), (0x2FFF, 0x12)]) = true := by decide
theorem test_B64_pchl : runs (start (file 0x00 0x00 0x00 0x00 0x00 0x41 0x3E) 0x02 0x0000 0x0100 [(0x0100, 0xE9)])
    (ends (file 0x00 0x00 0x00 0x00 0x00 0x41 0x3E) 0x02 0x0000 0x413E []) = true := by decide
theorem test_K1_push_b : runs (start (file 0x00 0x12 0x34 0x00 0x00 0x00 0x00) 0x02 0x3000 0x0100 [(0x0100, 0xC5)])
    (ends (file 0x00 0x12 0x34 0x00 0x00 0x00 0x00) 0x02 0x2FFE 0x0101
    [(0x2FFE, 0x34), (0x2FFF, 0x12)]) = true := by decide
theorem test_K3_push_h : runs (start (file 0x00 0x00 0x00 0x00 0x00 0xBE 0xEF) 0x02 0x0000 0x0100 [(0x0100, 0xE5)])
    (ends (file 0x00 0x00 0x00 0x00 0x00 0xBE 0xEF) 0x02 0xFFFE 0x0101
    [(0xFFFE, 0xEF), (0xFFFF, 0xBE)]) = true := by decide
theorem test_K4_push_psw : runs (start (file 0x1F 0x00 0x00 0x00 0x00 0x00 0x00) 0x47 0x502A 0x0100 [(0x0100, 0xF5)])
    (ends (file 0x1F 0x00 0x00 0x00 0x00 0x00 0x00) 0x47 0x5028 0x0101
    [(0x5028, 0x47), (0x5029, 0x1F)]) = true := by decide
theorem test_K5_push_psw : runs (start (file 0x00 0x00 0x00 0x00 0x00 0x00 0x00) 0xD7 0x502A 0x0100 [(0x0100, 0xF5)])
    (ends (file 0x00 0x00 0x00 0x00 0x00 0x00 0x00) 0xD7 0x5028 0x0101
    [(0x5028, 0xD7), (0x5029, 0x00)]) = true := by decide
theorem test_K7_pop_d : runs (start (file 0x00 0x00 0x00 0x00 0x00 0x00 0x00) 0x02 0xFFFF 0x0100
    [(0x0100, 0xD1), (0xFFFF, 0xCD), (0x0000, 0xAB)])
    (ends (file 0x00 0x00 0x00 0xAB 0xCD 0x00 0x00) 0x02 0x0001 0x0101 []) = true := by decide
theorem test_K9_pop_psw : runs (start (file 0x00 0x00 0x00 0x00 0x00 0x00 0x00) 0x02 0x2C00 0x0100
    [(0x0100, 0xF1), (0x2C00, 0xC3), (0x2C01, 0xFF)])
    (ends (file 0xFF 0x00 0x00 0x00 0x00 0x00 0x00) 0xC3 0x2C02 0x0101 []) = true := by decide
theorem test_K10_pop_psw : runs (start (file 0x00 0x00 0x00 0x00 0x00 0x00 0x00) 0x02 0x2C00 0x0100
    [(0x0100, 0xF1), (0x2C00, 0xFF), (0x2C01, 0x00)])
    (ends (file 0x00 0x00 0x00 0x00 0x00 0x00 0x00) 0xD7 0x2C02 0x0101 []) = true := by decide
theorem test_K12_xthl : runs (start (file 0x00 0x00 0x00 0x00 0x00 0x0B 0x3C) 0x02 0x10AD 0x0100
    [(0x0100, 0xE3), (0x10AD, 0xF0), (0x10AE, 0x0D)])
    (ends (file 0x00 0x00 0x00 0x00 0x00 0x0D 0xF0) 0x02 0x10AD 0x0101
    [(0x10AD, 0x3C), (0x10AE, 0x0B)]) = true := by decide
theorem test_K13_sphl : runs (start (file 0x00 0x00 0x00 0x00 0x00 0x50 0x6C) 0x02 0x1111 0x0100 [(0x0100, 0xF9)])
    (ends (file 0x00 0x00 0x00 0x00 0x00 0x50 0x6C) 0x02 0x506C 0x0101 []) = true := by decide
theorem test_K14_in_10h : runs ({ start (file 0x00 0x00 0x00 0x00 0x00 0x00 0x00) 0xD7 0x0000 0x0100
    [(0x0100, 0xDB), (0x0101, 0x10)] with host := { events := [], ioIn := [0x5A], dma := [] } })
    (ends (file 0x5A 0x00 0x00 0x00 0x00 0x00 0x00) 0xD7 0x0000 0x0102 []) = true := by decide
theorem test_K15_out_20h : runs (start (file 0x7E 0x00 0x00 0x00 0x00 0x00 0x00) 0x02 0x0000 0x0100
    [(0x0100, 0xD3), (0x0101, 0x20)])
    (fun t => ends (file 0x7E 0x00 0x00 0x00 0x00 0x00 0x00) 0x02 0x0000 0x0102 [] t &&
      t.ioOut == [{ port := 0x20, v := 0x7E }]) = true := by decide
theorem test_K16_ei : runs (start (file 0x00 0x00 0x00 0x00 0x00 0x00 0x00) 0x02 0x0000 0x0100 [(0x0100, 0xFB)])
    (fun t => ends (file 0x00 0x00 0x00 0x00 0x00 0x00 0x00) 0x02 0x0000 0x0101 [] t &&
      t.inte == true && t.intInhibit == true && t.halted == false) = true := by decide
theorem test_K18_di : runs ({ start (file 0x00 0x00 0x00 0x00 0x00 0x00 0x00) 0x02 0x0000 0x0100
    [(0x0100, 0xF3)] with inte := true })
    (fun t => ends (file 0x00 0x00 0x00 0x00 0x00 0x00 0x00) 0x02 0x0000 0x0101 [] t &&
      t.inte == false && t.intInhibit == false && t.halted == false) = true := by decide
theorem test_K20_hlt : runs (start (file 0x00 0x00 0x00 0x00 0x00 0x00 0x00) 0x02 0x0000 0x0100 [(0x0100, 0x76)])
    (fun t => ends (file 0x00 0x00 0x00 0x00 0x00 0x00 0x00) 0x02 0x0000 0x0101 [] t &&
      t.inte == false && t.intInhibit == false && t.halted == true) = true := by decide
theorem test_K21_nop : runs (start (file 0x00 0x00 0x00 0x00 0x00 0x00 0x00) 0xD7 0x0000 0x0100 [(0x0100, 0x00)])
    (ends (file 0x00 0x00 0x00 0x00 0x00 0x00 0x00) 0xD7 0x0000 0x0101 []) = true := by decide
/-! ### Order of the bytes (M1, M13), undocumented opcodes (U2 to U4), another bus master -/

theorem test_M1_shld_order : runs (start (file 0x00 0x00 0x00 0x00 0x00 0xAB 0xCD) 0x02 0x0000 0x0100
    [(0x0100, 0x22), (0x0102, 0x30)]) (fun t => t.clock == 16 && t.bus == [.opcode 0x0100 0x22, .operand 0x0101 0x00,
    .operand 0x0102 0x30, .write 0x3000 0xCD, .write 0x3001 0xAB]) = true := by decide

theorem test_M13_xthl_order : runs (start (file 0x00 0x00 0x00 0x00 0x00 0x0B 0x3C) 0x02 0x10AD 0x0100
    [(0x0100, 0xE3), (0x10AD, 0xF0), (0x10AE, 0x0D)]) (fun t => t.clock == 18 && t.bus == [.opcode 0x0100 0xE3,
    .stackRead 0x10AD 0xF0, .stackRead 0x10AE 0x0D, .stackWrite 0x10AE 0x0B, .stackWrite 0x10AD 0x3C]) = true := by decide

/-- A state whose policy on undocumented opcodes is `alias`. -/
def duplicating (s : State) : State := { s with cfg := { s.cfg with undoc := .asDocumented } }

theorem test_U1_undocumented_nop : runs (duplicating (start (file 0 0 0 0 0 0 0) 0x02 0x3000 0x0100 [(0x0100, 0x08)]))
    (ends (file 0 0 0 0 0 0 0) 0x02 0x3000 0x0101 []) = true := by decide

theorem test_U2_undocumented_jmp : runs (duplicating (start (file 0 0 0 0 0 0 0) 0x02 0x3000 0x0100
    [(0x0100, 0xCB), (0x0102, 0x3E)])) (ends (file 0 0 0 0 0 0 0) 0x02 0x3000 0x3E00 []) = true := by decide

theorem test_U3_undocumented_ret : runs (duplicating (start (file 0 0 0 0 0 0 0) 0x02 0x2FFE 0x2000
    [(0x2000, 0xD9), (0x2FFE, 0x03), (0x2FFF, 0x10)])) (ends (file 0 0 0 0 0 0 0) 0x02 0x3000 0x1003 []) = true := by decide

theorem test_U4_undocumented_call : runs (duplicating (start (file 0 0 0 0 0 0 0) 0x02 0x3000 0x1000
    [(0x1000, 0xDD), (0x1002, 0x20)])) (ends (file 0 0 0 0 0 0 0) 0x02 0x2FFE 0x2000 [(0x2FFF, 0x10), (0x2FFE, 0x03)]) = true := by
  decide

theorem test_U1_to_U4_refused_by_default : ∀ op : Byte,
    refusal (start (file 0 0 0 0 0 0 0) 0x02 0x3000 0x0100 [(0x0100, op)]) = some .undocumentedOpcode ↔
      op ∈ undocumentedOpcodes := by decide +kernel

theorem test_and_ac_rule_set : runs { start (file 0xF0 0x07 0 0 0 0 0) 0x03 0 0x0100 [(0x0100, 0xA0)] with
    cfg := { Config.defaults with andAc := .set } } (fun t => t.flags.byte == 0x56) = true := by decide

theorem test_other_master_writes_before_the_fetch : runs { start (file 0 0 0 0 0 0 0) 0x02 0 0x0100 [(0x0100, 0x00)] with
    host := { events := [], ioIn := [], dma := [[(0x0100, 0x37)]] } } (fun t => t.flags.cy && t.host.dma.isEmpty) = true := by
  decide

theorem test_rom_keeps_its_byte : runs { start (file 0x0F 0 0 0 0 0 0) 0x02 0 0x0100
    [(0x0100, 0x32), (0x0101, 0x34), (0x0102, 0x12), (0x1234, 0x77)] with
    cfg := { Config.defaults with memMap := [{ first := 0x1000, last := 0x1FFF, cls := .rom }] } }
    (fun t => t.mem.get 0x1234 == 0x77) = true := by decide

theorem test_separate_stack_memory : runs { start (file 0 0x12 0x34 0 0 0 0) 0x02 0x3000 0x0100 [(0x0100, 0xC5)] with
    cfg := { Config.defaults with stackSeparate := true } }
    (fun t => t.stackMem.get 0x2FFF == 0x12 && t.stackMem.get 0x2FFE == 0x34 && t.mem.get 0x2FFF == 0) = true := by decide

/-! ### Interrupts (I1 to I9), halt (H1 to H5) and RESET (X1, R341, R342) -/

/-- The host raises INT at the next boundary and supplies these bytes. -/
def asked (b1 b2 b3 : Byte) (s : State) : State :=
  { s with host := { s.host with events := [{ HostEvent.quiet with int := true, ack1 := b1, ack2 := b2, ack3 := b3 }] } }

/-- The host raises RESET for some periods, after some machine cycles of the instruction. -/
def reset (periods cycles : Nat) (s : State) : State :=
  { s with host := { s.host with events := [{ HostEvent.quiet with resetPeriods := periods, abandonAfter := cycles }] } }

/-- The state before I1. -/
def enabled : State := { start (file 0 0 0 0 0 0 0) 0x02 0x3000 0x1235 [] with inte := true }

/-- The state before H3. -/
def waiting : State := { start (file 0 0 0 0 0 0 0) 0x02 0x2400 0x0105 [] with inte := true, halted := true }

/-- Whether the return address 1235H is on the stack and interrupts are disabled. -/
def entered (pc : Word) (t : State) : Bool :=
  t.mem.get 0x2FFF == 0x12 && t.mem.get 0x2FFE == 0x35 && t.sp == 0x2FFE && t.pc == pc && t.inte == false

theorem test_I1_rst_2 : runs (asked 0xD7 0 0 enabled) (fun t => entered 0x0010 t && t.clock == 11) = true := by decide
theorem test_I2_disabled : runs { asked 0xD7 0 0 enabled with inte := false } (fun t => t.pc == 0x1236) = true := by decide
theorem test_I3_after_ei : runs { asked 0xD7 0 0 enabled with intInhibit := true }
    (fun t => t.pc == 0x1236 && t.inte && !t.intInhibit) = true := by decide
theorem test_I4_call : runs (asked 0xCD 0x00 0x40 enabled) (fun t => entered 0x4000 t && t.clock == 17) = true := by decide
theorem test_I5_rst_7 : runs (asked 0xFF 0 0 enabled) (entered 0x0038) = true := by decide
theorem test_I6_rst_0 : runs (asked 0xC7 0 0 enabled) (entered 0x0000) = true := by decide
theorem test_I7_nop_refused : refusal (asked 0x00 0 0 enabled) = some (.suppliedNotAdmitted 0x00) := by decide
theorem test_I8_no_request : runs enabled (fun t => t.pc == 0x1236 && t.inte) = true := by decide
theorem test_I9_before_di : runs (asked 0xFF 0 0 { enabled with pc := 0x0100, mem := [(0x0100, 0xF3)] })
    (fun t => t.pc == 0x0038 && t.mem.get 0x2FFF == 0x01 && t.mem.get 0x2FFE == 0x00) = true := by decide

theorem test_H1_masked : runs (asked 0xFF 0 0 { waiting with inte := false }) (fun t => t.halted && t.pc == 0x0105) = true := by
  decide
theorem test_H2_unasked : runs waiting (fun t => t.halted && t.pc == 0x0105 && t.inte) = true := by decide
theorem test_H3_leaves_halt : runs (asked 0xFF 0 0 waiting) (fun t => !t.halted && t.pc == 0x0038 && t.inte == false &&
    t.mem.get 0x23FF == 0x01 && t.mem.get 0x23FE == 0x05 && t.bus.head? == some (.intAck 0x0105 0xFF true)) = true := by decide
theorem test_H5_reset_leaves_halt : runs (reset 3 0 waiting) (fun t => !t.halted && t.pc == 0 && !t.inte) = true := by decide

theorem test_X1_reset : runs (reset 3 0 { enabled with intInhibit := true, mem := [(0x2000, 0xAA)] })
    (fun t => t.pc == 0 && !t.inte && !t.intInhibit && t.mem == [(0x2000, 0xAA)]) = true := by decide
theorem test_short_reset_refused : refusal (reset 2 0 enabled) = some .shortReset := by decide
theorem test_reset_inside_shld : runs (reset 3 4 (start (file 0x00 0x00 0x00 0x00 0x00 0xAB 0xCD) 0x02 0x0000 0x0100
    [(0x0100, 0x22), (0x0102, 0x30)])) (fun t => t.mem.get 0x3000 == 0xCD && t.mem.get 0x3001 == 0x00 && t.pc == 0) = true := by
  decide
theorem test_reset_inside_xthl_keeps_other_masters_writes : runs (reset 3 2 { start (file 0 0 0 0 0 0 0) 0x02 0x2000 0x0100
    [(0x0100, 0xE3)] with host := { events := [], ioIn := [], dma := [[], [(0x4000, 0x11)], [(0x4001, 0x22)]] } })
    (fun t => t.mem.get 0x4000 == 0x11 && t.mem.get 0x4001 == 0x00 && t.host.dma == [[(0x4001, 0x22)]]) = true := by decide
theorem test_reset_after_a_refused_opcode : refusal (reset 3 1 (start (file 0 0 0 0 0 0 0) 0x02 0x3000 0x0100
    [(0x0100, 0xCB)])) = some .undocumentedOpcode := by decide
theorem test_reset_before_that_opcode : runs (reset 3 0 (start (file 0 0 0 0 0 0 0) 0x02 0x3000 0x0100
    [(0x0100, 0xCB)])) (fun t => t.pc == 0) = true := by decide
theorem test_fetch_word_runs_undocumented : runs (State.reset.withFetchWord 24 0x3E00CB) (fun t => t.pc == 0x3E00) = true := by
  decide
theorem test_fetch_word_runs : runs (State.reset.withFetchWord 24 0x3E00C3) (fun t => t.pc == 0x3E00) = true := by decide

/-! ### Witnesses: for each statement with hypotheses, a state and operands that meet them -/

theorem goes_of_runs {s : State} {p : State → Bool} (h : runs s p = true) : ∃ t, step s = .next t := by
  unfold runs at h
  cases hs : step s with
  | next t => exact ⟨t, rfl⟩
  | fault _ => simp [hs] at h
  | refused _ => simp [hs] at h

/-- A state with two packed decimal digits in A and in B, the carry set, and a stack that wraps. -/
def sample : State := start (file 0x99 0x09 0 0 0 0xFF 0xFF) 0x03 0x0001 0xFFFE [(0x0001, 0x12), (0xFFFE, 0x40)]

theorem witness_DecodeEncodeAgree : (Instr.undocNop 7#3).wellFormed = true ∧ (Instr.lxi .sp 0xFFFF#16).wellFormed = true := by
  decide

theorem witness_StepRunsDecodedInstruction : sample.calm ∧ sample.unasked ∧ sample.halted = false ∧ sample.soleMaster ∧
    decode (sample.bytesFrom sample.pc 3) = .instr (.movRR .b .b) [0x00, 0x00] ∧
    ∀ j : Nat, j < opLength (sample.byteAt .opcode sample.pc) →
      sample.stored .opcode (sample.pc + BitVec.ofNat 16 j) = true := by
  decide

theorem witness_StepRunsDecodedInstruction_wrapping : ∀ j : Nat, j < opLength 0xC3#8 →
    sample.stored .opcode (sample.pc + BitVec.ofNat 16 j) = true := by
  decide

theorem witness_StepKeepsMemoryCanonical : sample.inv = true ∧ ∃ t, step sample = .next t :=
  ⟨by decide, goes_of_runs (p := fun _ => true) (by decide)⟩

theorem witness_CanonicalMemoryUnique : Memory.wf [(0, 1#8), (65535, 2#8)] = true ∧
    ∀ a, Memory.get [(0, 1#8), (65535, 2#8)] a = Memory.get [(0, 1#8), (65535, 2#8)] a := ⟨by decide, fun _ => rfl⟩

theorem witness_ResetEventState : 3 ≤ (reset 3 0 sample).event.resetPeriods ∧ (reset 3 0 sample).event.abandonAfter = 0 ∧
    3 ≤ (reset 3 1 sample).event.resetPeriods ∧ 0 < (reset 2 0 sample).event.resetPeriods ∧
    (reset 2 0 sample).event.resetPeriods < 3 := by decide

theorem witness_ResetEventState_inside : ∃ t, step (reset 3 1 sample) = .next t := goes_of_runs (p := fun _ => true) (by decide)

/-- RESET after four machine cycles of a SHLD whose second byte wraps to address 0. -/
def cut : State := reset 3 4 (start (file 0 0 0 0 0 0xAB 0xCD) 0x02 0 0x0100 [(0x0100, 0x22), (0x0101, 0xFF), (0x0102, 0xFF)])

theorem witness_ResetKeepsCompletedCycles : cut.inv = true ∧ cut.soleMaster ∧ cut.host.events = cut.event :: [] ∧
    3 ≤ cut.event.resetPeriods ∧
    ∃ u, step { cut with host := { cut.host with events := { cut.event with resetPeriods := 0 } :: [] } } = .next u :=
  ⟨by decide, by decide, by decide, by decide, goes_of_runs (p := fun _ => true) (by decide)⟩

theorem witness_LoadsReadMemory : sample.soleMaster ∧ sample.stored .data sample.regs.hl = true ∧
    sample.stored .data (sample.regs.indexPair .bc) = true ∧ sample.stored .data 0xFFFF#16 = true ∧
    sample.stored .data (0xFFFF#16 + 1#16) = true := by decide

theorem witness_StoredBytesReadBack : sample.inv = true ∧ sample.soleMaster ∧ sample.writable .data sample.regs.hl = true ∧
    sample.writable .data (sample.regs.indexPair .de) = true ∧ sample.writable .data 0xFFFF#16 = true ∧
    sample.writable .data (0xFFFF#16 + 1#16) = true := by decide

theorem witness_StoredBytesReadBack_next : (∃ t, exec (.movMR .b) sample = .next t) ∧ (∃ t, exec (.mviM 1) sample = .next t) ∧
    (∃ t, exec (.sta 0xFFFF) sample = .next t) ∧ (∃ t, exec (.stax .de) sample = .next t) ∧
    (∃ t, exec (.shld 0xFFFF) sample = .next t) := ⟨⟨_, rfl⟩, ⟨_, rfl⟩, ⟨_, rfl⟩, ⟨_, rfl⟩, ⟨_, rfl⟩⟩

theorem witness_NextFetchSeesStore : sample.inv = true ∧ sample.soleMaster ∧ sample.writable .data sample.pc = true ∧
    ∃ t, exec (.sta sample.pc) sample = .next t := ⟨by decide, by decide, by decide, _, rfl⟩

theorem witness_DecimalAddition : packed sample.regs.a ∧ packed (sample.regs.get .b) ∧
    ∃ t u, exec (.adcR .b) sample = .next t ∧ exec .daa t = .next u := ⟨by decide, by decide, _, _, rfl, rfl⟩

theorem witness_ReturnUndoesCall : sample.inv = true ∧ sample.soleMaster ∧ sample.writable .stack (sample.sp - 1#16) = true ∧
    sample.writable .stack (sample.sp - 2#16) = true ∧
    ∃ t u, exec (.call 0x2000) sample = .next t ∧ exec .ret t = .next u := by
  exact ⟨by decide, by decide, by decide, by decide, _, _, rfl, rfl⟩

theorem witness_PopPswUndoesPush : sample.inv = true ∧ sample.soleMaster ∧ sample.writable .stack (sample.sp - 1#16) = true ∧
    sample.writable .stack (sample.sp - 2#16) = true ∧ ∃ t u v, exec .pushPsw sample = .next t ∧
      u.sp = t.sp ∧ u.mem = t.mem ∧ u.stackMem = t.stackMem ∧ u.cfg = t.cfg ∧ u.soleMaster ∧ exec .popPsw u = .next v := by
  exact ⟨by decide, by decide, by decide, by decide, _, _, _, rfl, rfl, rfl, rfl, rfl, by decide, rfl⟩

theorem witness_InputForm : { sample.host with ioIn := [0x5A] }.ioIn = 0x5A :: [] ∧ sample.host.ioIn = [] := by decide

theorem witness_OutputForm : sample.soleMaster := by decide

theorem witness_ControlForms : waiting.soleMaster := by decide

theorem witness_UndocumentedForms : (duplicating sample).cfg.undoc = .asDocumented ∧ sample.cfg.undoc = .refuse := by decide

theorem witness_RegisterFrame : (∃ t, exec (.dad .sp) sample = .next t) ∧ Reg.a ∉ regsWritten (.dad .sp) :=
  ⟨⟨_, rfl⟩, by decide⟩

theorem witness_FlagFrame : (∃ t, exec (.inrR .b) sample = .next t) ∧ (flagsWritten (.inrR .b)).cy = false ∧
    (∃ t, exec (.dad .bc) sample = .next t) ∧ (flagsWritten (.dad .bc)).s = false ∧ (flagsWritten (.dad .bc)).z = false ∧
    (flagsWritten (.dad .bc)).ac = false ∧ (flagsWritten (.dad .bc)).p = false := by
  exact ⟨⟨_, rfl⟩, by decide, ⟨_, rfl⟩, by decide, by decide, by decide, by decide⟩

theorem witness_MemoryFrame : sample.inv = true ∧ sample.soleMaster ∧ (∃ t, exec .xthl sample = .next t) ∧
    ∀ j b, (j, b) ∈ storesTo .xthl sample → sample.apart j = sample.apart .data → b ≠ 0xFFFF#16 := by
  refine ⟨by decide, by decide, ⟨_, rfl⟩, fun j b h _ => ?_⟩
  have hb : (j, b) = (.stack, 0x0002#16) ∨ (j, b) = (.stack, 0x0001#16) := by
    simpa [storesTo, sample, start] using h
  rcases hb with hb | hb <;> cases hb <;> decide

theorem witness_MemoryFrame_rom : { sample with
    cfg := { Config.defaults with memMap := [{ first := 0x1000, last := 0x1FFF, cls := .rom }] } }.writable .data 0x1FFF#16
      = false := by decide

theorem witness_ControlFrame : (∃ t, exec .nop waiting = .next t) ∧ Instr.nop ≠ .ei ∧ Instr.nop ≠ .di ∧ Instr.nop ≠ .hlt ∧
    ∀ port, Instr.nop ≠ .outPort port := by
  exact ⟨⟨_, rfl⟩, by decide, by decide, by decide, fun _ h => Instr.noConfusion h⟩

theorem witness_AccessOrder : ∃ t, exec (.cnz 0x2000) sample = .next t := ⟨_, rfl⟩

theorem witness_StepKeepsPlatform : ∃ t, step sample = .next t := goes_of_runs (p := fun _ => true) (by decide)

/-- Interrupts enabled, one request, and a stack that wraps. -/
def asking : State := asked 0xFF 0x34 0x12 { sample with inte := true }

theorem witness_RestartEntry : asking.inv = true ∧ asking.soleMaster ∧ asking.calm ∧ asking.intInhibit = false ∧
    asking.inte = true ∧ asking.event.int = true ∧ asking.event.ack1.toNat = 0xC7 + 8 * (7#3).toNat ∧
    asking.cfg.intPolicy.contains asking.event.ack1 = true ∧ asking.writable .stack (asking.sp - 1#16) = true ∧
    asking.writable .stack (asking.sp - 2#16) = true := by decide

/-- The same with a supplied CALL, out of the halt state. -/
def askingCall : State := asked 0xCD 0x34 0x12 { sample with inte := true, halted := true }

theorem witness_CallEntry : askingCall.inv = true ∧ askingCall.soleMaster ∧ askingCall.calm ∧ askingCall.intInhibit = false ∧
    askingCall.inte = true ∧ askingCall.event.int = true ∧ askingCall.event.ack1 = 0xCD#8 ∧
    askingCall.cfg.intPolicy.contains 0xCD#8 = true ∧ askingCall.writable .stack (askingCall.sp - 1#16) = true ∧
    askingCall.writable .stack (askingCall.sp - 2#16) = true := by decide

theorem witness_OtherSuppliedRefused : (asked 0x00 0 0 enabled).calm ∧ (asked 0x00 0 0 enabled).intInhibit = false ∧
    (asked 0x00 0 0 enabled).inte = true ∧ (asked 0x00 0 0 enabled).event.int = true ∧
    (asked 0x00 0 0 enabled).cfg.intPolicy.contains (asked 0x00 0 0 enabled).event.ack1 = false := by decide

theorem witness_MaskedRequestUnseen : (asked 0xFF 0 0 sample).host.events =
      { HostEvent.quiet with int := true, ack1 := 0xFF } :: [] ∧ sample.inte = false ∧
    { enabled with intInhibit := true }.intInhibit = true ∧ HostEvent.quiet.resetPeriods = 0 := by decide

theorem witness_HaltStutters : waiting.calm ∧ waiting.unasked ∧ waiting.halted = true ∧ waiting.soleMaster := by decide

theorem witness_EndedRunStaysEnded : let s := asked 0xFF 0 0 { waiting with inte := false }
    s.runEnded ∧ s.soleMaster ∧ (∀ ev ∈ s.host.events, ev.resetPeriods = 0 ∧ ev.stall.isSome = true) ∧
    ∃ t u, step s = .next t ∧ step t = .next u ∧ Reaches s u := by
  refine ⟨by decide, by decide, by decide, ?_⟩
  exact ⟨_, _, rfl, rfl, .step _ _ _ rfl (.step _ _ _ rfl (.here _))⟩

theorem witness_StallOnlyDelays : let s := asked 0xD7 0 0 enabled
    s.host.events = { s.event with stall := some 0 } :: [] ∧ s.event.resetPeriods = 0 ∧ ∃ t, step s = .next t :=
  ⟨by decide, by decide, goes_of_runs (p := fun _ => true) (by decide)⟩

end Sys2Proof.Tests
end

section
/-! SUPPORT. The flags of a result (R16), and what every step does to the outputs (R64) and to the platform's parameters (R9). -/

namespace Sys2Proof.Machine

/-! ### Flags of a result -/

theorem countP_range_succ_toNat (p : Nat → Bool) (n : Nat) :
    (List.range (n + 1)).countP p = (List.range n).countP p + (p n).toNat := by
  cases h : p n <;> simp [List.range_succ, h]

/-- `parity8` of R12 through the number of 1 bits. -/
theorem parity8_iff (v : Byte) :
    parity8 v = true ↔ (List.range 8).countP (fun k => v.getLsbD k) % 2 = 0 := by
  simp only [countP_range_succ_toNat, List.range_zero, List.countP_nil, Nat.zero_add, parity8, beq_iff_eq]

theorem byte_beq_zero_iff (v : Byte) : (v == 0#8) = true ↔ v.toNat = 0 := by
  rw [beq_iff_eq, ← BitVec.toNat_inj, BitVec.toNat_ofNat, Nat.zero_mod]

/-- Settles O15: each conjunct is a field of `Flags.setSZP`, and Z and P are read through the two lemmas above. -/
theorem signZeroParity : Obligations.SignZeroParity :=
  fun _ v => ⟨rfl, byte_beq_zero_iff v, parity8_iff v, rfl, rfl⟩

/-! ### Outputs and platform of the operations -/

@[simp] theorem State.jumpIf_cfg (cc : Cond) (a : Word) (s : State) : (s.jumpIf cc a).cfg = s.cfg := by
  obtain ⟨-, h⟩ | ⟨-, h⟩ := s.jumpIf_cases cc a <;> simp [h]

@[simp] theorem State.jumpIf_ioOut (cc : Cond) (a : Word) (s : State) : (s.jumpIf cc a).ioOut = s.ioOut := by
  obtain ⟨-, h⟩ | ⟨-, h⟩ := s.jumpIf_cases cc a <;> simp [h]

@[simp] theorem State.callIf_cfg (cc : Cond) (a : Word) (s : State) : (s.callIf cc a).cfg = s.cfg := by
  obtain ⟨-, h⟩ | ⟨-, h⟩ := s.callIf_cases cc a <;> simp [h]

@[simp] theorem State.callIf_ioOut (cc : Cond) (a : Word) (s : State) : (s.callIf cc a).ioOut = s.ioOut := by
  obtain ⟨-, h⟩ | ⟨-, h⟩ := s.callIf_cases cc a <;> simp [h]

@[simp] theorem State.returnIf_cfg (cc : Cond) (s : State) : (s.returnIf cc).cfg = s.cfg := by
  obtain ⟨-, h⟩ | ⟨-, h⟩ := s.returnIf_cases cc <;> simp [h]

@[simp] theorem State.returnIf_ioOut (cc : Cond) (s : State) : (s.returnIf cc).ioOut = s.ioOut := by
  obtain ⟨-, h⟩ | ⟨-, h⟩ := s.returnIf_cases cc <;> simp [h]

@[simp] theorem State.afterFetch_cfg (k : Kind) (s : State) : (s.afterFetch k).cfg = s.cfg := s.afterRead_cfg k s.pc

@[simp] theorem State.afterFetch_ioOut (k : Kind) (s : State) : (s.afterFetch k).ioOut = s.ioOut :=
  s.afterRead_ioOut k s.pc

@[simp] theorem State.enterByRestart_cfg (op : Byte) (s : State) : (s.enterByRestart op).cfg = s.cfg := by
  simp [State.enterByRestart]

@[simp] theorem State.enterByRestart_ioOut (op : Byte) (s : State) : (s.enterByRestart op).ioOut = s.ioOut := by
  simp [State.enterByRestart]

@[simp] theorem State.enterByCall_cfg (op low high : Byte) (s : State) : (s.enterByCall op low high).cfg = s.cfg := by
  simp [State.enterByCall]

@[simp] theorem State.enterByCall_ioOut (op low high : Byte) (s : State) :
    (s.enterByCall op low high).ioOut = s.ioOut := by simp [State.enterByCall]

/-! ### Outputs and platform of an instruction -/

/-- The output events of an instruction (R64): OUT has one (R267), every other instruction none. -/
def outputsOf (i : Instr) (s : State) : List OutEvent :=
  match i with
  | .outPort port => [{ port := port, v := s.regs.a }]
  | _ => []

/-- An instruction without output answers a state `u` that has the platform and the outputs of `s`. -/
theorem outputs_of_next {s t u : State} (h : (.next u : Result) = .next t) (hc : u.cfg = s.cfg) (ho : u.ioOut = s.ioOut) :
    t.cfg = s.cfg ∧ t.ioOut = s.ioOut ++ [] := by
  obtain rfl := Host.Outcome.next.inj h
  exact ⟨hc, by rw [ho, List.append_nil]⟩

/-- The same where the policy on undocumented opcodes has let the instruction run. -/
theorem outputs_of_underPolicy {s t u : State} (h : s.underPolicy u = .next t) (hc : u.cfg = s.cfg)
    (ho : u.ioOut = s.ioOut) : t.cfg = s.cfg ∧ t.ioOut = s.ioOut ++ [] := by
  obtain ⟨-, h'⟩ | ⟨-, h'⟩ := s.underPolicy_cases u
  · exact outputs_of_next (h'.symm.trans h) hc ho
  · cases h'.symm.trans h

/-- An instruction keeps the platform's parameters and appends its output events. -/
theorem exec_outputs {i : Instr} {s t : State} (h : exec i s = .next t) :
    t.cfg = s.cfg ∧ t.ioOut = s.ioOut ++ outputsOf i s := by
  cases i
  case outPort port =>
    obtain rfl := Host.Outcome.next.inj h
    exact ⟨s.output_cfg port s.regs.a, s.output_ioOut port s.regs.a⟩
  case undocNop | undocJmp | undocRet | undocCall => exact outputs_of_underPolicy h (by simp) (by simp)
  all_goals exact outputs_of_next h (by simp) (by simp)

/-! ### Outputs and platform of a step -/

/-- `t` has the platform of `s`, and the outputs of `s` with none or more after them. -/
def State.ExtendedBy (s t : State) : Prop := t.cfg = s.cfg ∧ ∃ more, t.ioOut = s.ioOut ++ more

theorem State.ExtendedBy.of_eq {s t : State} (hc : t.cfg = s.cfg) (ho : t.ioOut = s.ioOut) : s.ExtendedBy t :=
  ⟨hc, [], by rw [ho, List.append_nil]⟩

theorem State.ExtendedBy.trans {s t u : State} (hst : s.ExtendedBy t) (htu : t.ExtendedBy u) : s.ExtendedBy u := by
  obtain ⟨hc, more, ho⟩ := hst
  obtain ⟨hc', more', ho'⟩ := htu
  exact ⟨hc'.trans hc, more ++ more', by rw [ho', ho, List.append_assoc]⟩

/-- An instruction run from a state with the outputs and the platform of `s`. -/
theorem exec_extends {i : Instr} {s u t : State} (hc : u.cfg = s.cfg) (ho : u.ioOut = s.ioOut) (h : exec i u = .next t) :
    s.ExtendedBy t := by
  obtain ⟨hct, hot⟩ := exec_outputs h
  exact .trans (.of_eq hc ho) ⟨hct, _, hot⟩

/-- All that fetching and executing can do: run an instruction once its one, two or three bytes are fetched. -/
theorem State.fetchExec_cases (s : State) :
    let s1 := s.afterFetch .opcode
    let s2 := s1.afterFetch .operand
    opLength (s.fetchVal .opcode) = 1 ∧ s.fetchExec = exec (decodeFields (s.fetchVal .opcode) 0#8 0#8) s1 ∨
    opLength (s.fetchVal .opcode) = 2 ∧
      s.fetchExec = exec (decodeFields (s.fetchVal .opcode) (s1.fetchVal .operand) 0#8) s2 ∨
    opLength (s.fetchVal .opcode) = 3 ∧
      s.fetchExec = exec (decodeFields (s.fetchVal .opcode) (s1.fetchVal .operand) (s2.fetchVal .operand))
        (s2.afterFetch .operand) := by
  have hlen : ∀ op : Byte, opLength op = 1 ∨ opLength op = 2 ∨ opLength op = 3 := by
    intro op; unfold opLength; split_ifs <;> simp
  obtain h | h | h := hlen (s.fetchVal .opcode) <;> simp [State.fetchExec, h]

theorem State.fetchExec_extends {s t : State} (h : s.fetchExec = .next t) : s.ExtendedBy t := by
  obtain ⟨-, h'⟩ | ⟨-, h'⟩ | ⟨-, h'⟩ := s.fetchExec_cases <;>
    exact exec_extends (by simp) (by simp) (h'.symm.trans h)

theorem State.proceed_extends {s t : State} (h : s.proceed = .next t) : s.ExtendedBy t := by
  unfold State.proceed at h
  split at h
  · obtain rfl := Host.Outcome.next.inj h
    exact .of_eq s.busTurn_cfg s.busTurn_ioOut
  · exact State.fetchExec_extends h

theorem State.acceptInterrupt_extends {ev : HostEvent} {s t : State} (h : s.acceptInterrupt ev = .next t) :
    s.ExtendedBy t := by
  obtain ⟨-, ⟨-, h'⟩ | ⟨-, -, h'⟩ | ⟨-, -, -, h'⟩ | h'⟩ | ⟨-, h'⟩ := s.acceptInterrupt_cases ev <;> rw [h'] at h
  · obtain rfl := Host.Outcome.next.inj h
    exact .of_eq (by simp) (by simp)
  · obtain rfl := Host.Outcome.next.inj h
    exact .of_eq (by simp) (by simp)
  · exact exec_extends (by simp) (by simp) h
  · cases h
  · cases h

theorem State.boundary_extends {ev : HostEvent} {s t : State} (h : s.boundary ev = .next t) : s.ExtendedBy t := by
  obtain ⟨-, h'⟩ | ⟨-, h'⟩ | ⟨-, -, -, h'⟩ | ⟨-, h'⟩ := s.boundary_cases ev <;> rw [h'] at h
  · cases h
  · exact State.proceed_extends (s := { s with intInhibit := false }) h
  · exact State.acceptInterrupt_extends h
  · exact State.proceed_extends h

/-- The completed cycles of an abandoned instruction leave their outputs done and take none back (R342). -/
theorem State.foldl_keepCycle_extends (cs : List BusCycle) (s : State) : s.ExtendedBy (cs.foldl State.keepCycle s) := by
  induction cs generalizing s with
  | nil => exact .of_eq rfl rfl
  | cons c cs ih => exact .trans (s.keepCycle_frame c) (ih (s.keepCycle c))

theorem State.abandon_extends {n : Nat} {ev : HostEvent} {s t : State} (h : s.abandon n ev = .next t) :
    s.ExtendedBy t := by
  obtain ⟨-, h'⟩ | ⟨-, ⟨u, -, h'⟩ | ⟨_, -, h'⟩ | ⟨_, -, h'⟩⟩ := s.abandon_cases n ev <;> rw [h'] at h
  · obtain rfl := Host.Outcome.next.inj h
    exact .of_eq rfl rfl
  · obtain rfl := Host.Outcome.next.inj h
    exact State.foldl_keepCycle_extends (u.bus.take n) s
  · cases h
  · cases h

/-- Opening a step and RESET write neither the outputs nor the platform, so the step extends what its boundary extends. -/
theorem step_extends {s t : State} (h : step s = .next t) : s.ExtendedBy t := by
  obtain ⟨-, h'⟩ | ⟨-, -, h'⟩ | ⟨-, ⟨u, hu, h'⟩ | ⟨_, -, h'⟩ | ⟨_, -, h'⟩⟩ := step_cases s <;> rw [h'] at h
  · exact State.boundary_extends (s := s.openStep) h
  · cases h
  · obtain rfl := Host.Outcome.next.inj h
    have hleft : s.openStep.ExtendedBy u := State.abandon_extends hu
    exact hleft
  · cases h
  · cases h

/-- Settles O53, through `State.ExtendedBy`: reflexive, transitive and kept by every part of a step (R320). -/
theorem stepKeepsPlatform : Obligations.StepKeepsPlatform := fun _ _ => step_extends

end Sys2Proof.Machine
end


section
/-! SUPPORT. The registers, pairs and flag byte as data (R21 to R24, R32), the default policy of R9, and what an instruction leaves
unchanged: the registers (R27), the flags (R33), INTE, int_inhibit, the halt state and the host's coming events (R36, R37, R39,
R305). -/

namespace Sys2Proof.Machine

/-! ### Registers and flags as data -/

@[simp] theorem Regs.get_set_same (rs : Regs) (r : Reg) (v : Byte) : (rs.set r v).get r = v := by cases r <;> rfl

theorem Regs.get_set_of_ne (rs : Regs) {r q : Reg} (v : Byte) (h : q ≠ r) : (rs.set r v).get q = rs.get q := by
  cases r <;> cases q <;> first | rfl | exact absurd rfl h

/-- Settles O13, by whether the register read is the one written. -/
theorem registersAreDistinct : Obligations.RegistersAreDistinct := by
  intro rs r q v
  split
  next h => rw [h, Regs.get_set_same]
  next h => exact rs.get_set_of_ne v h

theorem toNat_joinBytes (h l : Byte) : (joinBytes h l).toNat = 256 * h.toNat + l.toNat := by
  simp only [joinBytes, BitVec.toNat_ofNat]; omega

/-- Settles O14: a pair is the concatenation of two fields of `Regs` (R11), and a write to the pair splits its word into them. -/
theorem pairsAreViews : Obligations.PairsAreViews :=
  fun rs w v =>
    ⟨toNat_joinBytes rs.b rs.c, toNat_joinBytes rs.d rs.e, toNat_joinBytes rs.h rs.l,
      joinBytes_hi8_lo8 w, rfl, rfl, rfl, joinBytes_hi8_lo8 w, rfl, rfl, rfl, joinBytes_hi8_lo8 w, rfl, rfl, rfl,
      toNat_joinBytes v rs.l, toNat_joinBytes rs.h v, toNat_joinBytes v rs.c, toNat_joinBytes rs.b v,
      toNat_joinBytes v rs.e, toNat_joinBytes rs.d v⟩

/-- The flag byte of R32 as its eight bits, bit 0 first. -/
theorem Flags.byte_eq_bits (f : Flags) :
    f.byte = BitVec.ofBoolListLE [f.cy, true, f.p, false, f.ac, false, f.z, f.s] := by
  obtain ⟨s, z, ac, p, cy⟩ := f
  cases s <;> cases z <;> cases ac <;> cases p <;> cases cy <;> rfl

theorem Flags.getLsbD_byte (f : Flags) (k : Nat) :
    f.byte.getLsbD k = [f.cy, true, f.p, false, f.ac, false, f.z, f.s].getD k false := by
  rw [Flags.byte_eq_bits, BitVec.getLsbD_ofBoolListLE]

theorem Flags.ofByte_byte (f : Flags) : Flags.ofByte f.byte = f := by
  simp only [Flags.ofByte, Flags.getLsbD_byte, List.getD_cons_succ, List.getD_cons_zero]

/-- Settles O16: bit for bit by `Flags.getLsbD_byte`; what SetFlagByte reads is its definition. -/
theorem flagByteLayout : Obligations.FlagByteLayout :=
  fun f _ =>
    ⟨⟨f.getLsbD_byte 7, f.getLsbD_byte 6, f.getLsbD_byte 5, f.getLsbD_byte 4, f.getLsbD_byte 3, f.getLsbD_byte 2,
        f.getLsbD_byte 1, f.getLsbD_byte 0⟩,
      ⟨rfl, rfl, rfl, rfl, rfl⟩, f.ofByte_byte⟩

/-! ### The default policy on supplied opcodes -/

/-- The list of R9's default policy is the opcodes of RST 0 to RST 7 (R248), then CALL. -/
theorem restartsAndCall_eq :
    Config.restartsAndCall = (List.range 8).map (fun n => BitVec.ofNat 8 (0xC7 + 8 * n)) ++ [0xCD#8] := rfl

theorem restart_opcode_iff (op : Byte) :
    (∃ n < 8, BitVec.ofNat 8 (0xC7 + 8 * n) = op) ↔ ∃ n : BitVec 3, op.toNat = 0xC7 + 8 * n.toNat := by
  constructor
  · rintro ⟨n, hn, rfl⟩
    refine ⟨BitVec.ofNat 3 n, ?_⟩
    simp only [BitVec.toNat_ofNat]; omega
  · rintro ⟨n, hn⟩
    refine ⟨n.toNat, n.isLt, ?_⟩
    rw [← hn, BitVec.ofNat_toNat, BitVec.setWidth_eq]

theorem restartsAndCall_contains_iff (op : Byte) :
    Config.restartsAndCall.contains op = true ↔ op = 0xCD#8 ∨ ∃ n : BitVec 3, op.toNat = 0xC7 + 8 * n.toNat := by
  rw [List.contains_iff_mem, restartsAndCall_eq, List.mem_append, List.mem_singleton, or_comm, ← restart_opcode_iff]
  simp only [List.mem_map, List.mem_range]

/-- Settles O7: the fields of `State.reset`, and the policy through `restartsAndCall_contains_iff`. -/
theorem resetValues : Obligations.ResetValues :=
  ⟨rfl, rfl, rfl, rfl, rfl, rfl, rfl, fun _ => rfl, restartsAndCall_contains_iff⟩

/-! ### Fields of the conditional transfers -/

@[simp] theorem State.jumpIf_regs (cc : Cond) (a : Word) (s : State) : (s.jumpIf cc a).regs = s.regs := by
  obtain ⟨-, h⟩ | ⟨-, h⟩ := s.jumpIf_cases cc a <;> simp [h]
@[simp] theorem State.jumpIf_flags (cc : Cond) (a : Word) (s : State) : (s.jumpIf cc a).flags = s.flags := by
  obtain ⟨-, h⟩ | ⟨-, h⟩ := s.jumpIf_cases cc a <;> simp [h]
@[simp] theorem State.jumpIf_sp (cc : Cond) (a : Word) (s : State) : (s.jumpIf cc a).sp = s.sp := by
  obtain ⟨-, h⟩ | ⟨-, h⟩ := s.jumpIf_cases cc a <;> simp [h]

@[simp] theorem State.callIf_regs (cc : Cond) (a : Word) (s : State) : (s.callIf cc a).regs = s.regs := by
  obtain ⟨-, h⟩ | ⟨-, h⟩ := s.callIf_cases cc a <;> simp [h]
@[simp] theorem State.callIf_flags (cc : Cond) (a : Word) (s : State) : (s.callIf cc a).flags = s.flags := by
  obtain ⟨-, h⟩ | ⟨-, h⟩ := s.callIf_cases cc a <;> simp [h]
@[simp] theorem State.callIf_sp (cc : Cond) (a : Word) (s : State) :
    (s.callIf cc a).sp = if s.flags.holds cc then s.sp - 2#16 else s.sp := by
  obtain ⟨hc, h⟩ | ⟨hc, h⟩ := s.callIf_cases cc a <;> simp [h, hc]

@[simp] theorem State.returnIf_regs (cc : Cond) (s : State) : (s.returnIf cc).regs = s.regs := by
  obtain ⟨-, h⟩ | ⟨-, h⟩ := s.returnIf_cases cc <;> simp [h]
@[simp] theorem State.returnIf_flags (cc : Cond) (s : State) : (s.returnIf cc).flags = s.flags := by
  obtain ⟨-, h⟩ | ⟨-, h⟩ := s.returnIf_cases cc <;> simp [h]
@[simp] theorem State.returnIf_sp (cc : Cond) (s : State) :
    (s.returnIf cc).sp = if s.flags.holds cc then s.sp + 2#16 else s.sp := by
  obtain ⟨hc, h⟩ | ⟨hc, h⟩ := s.returnIf_cases cc <;> simp [h, hc]

/-! ### What an instruction answers -/

theorem eq_of_next {t u : State} (h : (.next u : Result) = .next t) : t = u := (Host.Outcome.next.inj h).symm

/-- Where the policy on undocumented opcodes lets an instruction run, the answer is its documented effect (R280). -/
theorem eq_of_underPolicy {s t u : State} (h : s.underPolicy u = .next t) : t = u := by
  obtain ⟨-, h'⟩ | ⟨-, h'⟩ := s.underPolicy_cases u
  · exact eq_of_next (h'.symm.trans h)
  · cases h'.symm.trans h

/-! ### Registers after an instruction -/

/-- The registers `qs` are those of `rs`, but for the ones listed in `ws`. -/
def Regs.AgreeOff (rs : Regs) (ws : List Reg) (qs : Regs) : Prop := ∀ r : Reg, r ∉ ws → qs.get r = rs.get r

theorem Regs.agreeOff_self (rs : Regs) (ws : List Reg) : rs.AgreeOff ws rs := fun _ _ => rfl

theorem Regs.AgreeOff.set {rs qs : Regs} {ws : List Reg} (h : rs.AgreeOff ws qs) {r : Reg} (hr : r ∈ ws) (v : Byte) :
    rs.AgreeOff ws (qs.set r v) :=
  fun _ hq => (qs.get_set_of_ne v (ne_of_mem_of_not_mem hr hq).symm).trans (h _ hq)

theorem Regs.agreeOff_set (rs : Regs) (r : Reg) (v : Byte) : rs.AgreeOff [r] (rs.set r v) :=
  (rs.agreeOff_self [r]).set (List.mem_singleton.2 rfl) v

/-- The setters of pairs write their two halves one after the other (R23). -/
theorem Regs.agreeOff_set_set (rs : Regs) (r q : Reg) (v w : Byte) : rs.AgreeOff [r, q] ((rs.set r v).set q w) :=
  ((rs.agreeOff_self [r, q]).set (by simp) v).set (by simp) w

theorem Regs.agreeOff_setStackPair (rs : Regs) (p : StackPair) (w : Word) :
    rs.AgreeOff (stackPairHalves p) (rs.setStackPair p w) := by
  cases p
  · exact rs.agreeOff_set_set .b .c (hi8 w) (lo8 w)
  · exact rs.agreeOff_set_set .d .e (hi8 w) (lo8 w)
  · exact rs.agreeOff_set_set .h .l (hi8 w) (lo8 w)

theorem State.agreeOff_setPair (s : State) (p : Pair) (w : Word) :
    s.regs.AgreeOff (pairHalves p) (s.setPair p w).regs := by
  cases p
  case bc => exact s.regs.agreeOff_setStackPair .bc w
  case de => exact s.regs.agreeOff_setStackPair .de w
  case hl => exact s.regs.agreeOff_setStackPair .hl w
  case sp => exact s.regs.agreeOff_self []

theorem Regs.agreeOff_of_eq {rs qs : Regs} {ws : List Reg} (h : qs = rs) : rs.AgreeOff ws qs :=
  h ▸ rs.agreeOff_self ws

theorem Regs.agreeOff_of_eq_set {rs qs : Regs} {r : Reg} (h : qs = rs.set r (qs.get r)) : rs.AgreeOff [r] qs :=
  h ▸ rs.agreeOff_set r (qs.get r)

@[simp] theorem Regs.hl_setHl (rs : Regs) (w : Word) : (rs.setHl w).hl = w := joinBytes_hi8_lo8 w

theorem Regs.agreeOff_of_eq_setHl {rs qs : Regs} (h : qs = rs.setHl qs.hl) : rs.AgreeOff [.h, .l] qs :=
  h ▸ rs.agreeOff_setStackPair .hl qs.hl

/-- The register rows of R27, instruction by instruction. -/
theorem exec_regs {i : Instr} {s t : State} (h : exec i s = .next t) : s.regs.AgreeOff (regsWritten i) t.regs := by
  cases i
  case movRR | movRM | mviR | inrR | dcrR =>
    rw [eq_of_next h]
    exact Regs.agreeOff_of_eq_set (by simp)
  case lxi p _ | inx p | dcx p =>
    rw [eq_of_next h]
    exact s.agreeOff_setPair p _
  case popRp p =>
    rw [eq_of_next h]
    exact s.regs.agreeOff_setStackPair p _
  case lhld | dad | xthl =>
    rw [eq_of_next h]
    exact Regs.agreeOff_of_eq_setHl (by simp)
  case xchg =>
    rw [eq_of_next h]
    have hself := s.regs.agreeOff_self [.d, .e, .h, .l]
    have hhl := (hself.set (r := .h) (by decide) (hi8 s.regs.de)).set (r := .l) (by decide) (lo8 s.regs.de)
    exact (hhl.set (r := .d) (by decide) (hi8 s.regs.hl)).set (r := .e) (by decide) (lo8 s.regs.hl)
  case lda | ldax | addR | addM | adi | adcR | adcM | aci | subR | subM | sui | sbbR | sbbM | sbi | anaR | anaM | ani
      | xraR | xraM | xri | oraR | oraM | ori | daa | rlc | rrc | ral | rar | cma | inPort | popPsw =>
    rw [eq_of_next h]
    exact Regs.agreeOff_of_eq_set (by simp [Regs.set, Regs.get])
  case undocNop | undocJmp | undocRet | undocCall =>
    rw [eq_of_underPolicy h]
    exact Regs.agreeOff_of_eq (by simp)
  all_goals
    rw [eq_of_next h]
    exact Regs.agreeOff_of_eq (by simp)

/-- The row of SP in R27, instruction by instruction. -/
theorem exec_sp {i : Instr} {s t : State} (h : exec i s = .next t) : t.sp = spAfter i s := by
  cases i
  case lxi p _ | inx p | dcx p =>
    rw [eq_of_next h]
    cases p <;> rfl
  case jnz | jz | jnc | jc | jpo | jpe | jp | jm =>
    rw [eq_of_next h]
    exact s.jumpIf_sp _ _
  case cnz | cz | cnc | cc | cpo | cpe | cp | cm =>
    rw [eq_of_next h]
    exact s.callIf_sp _ _
  case rnz | rz | rnc | rc | rpo | rpe | rp | rm =>
    rw [eq_of_next h]
    exact s.returnIf_sp _
  case undocNop | undocJmp | undocRet | undocCall =>
    rw [eq_of_underPolicy h]
    simp [spAfter]
  all_goals
    rw [eq_of_next h]
    simp [spAfter]

/-- Settles O48, by `exec_regs` and `exec_sp`. -/
theorem registerFrame : Obligations.RegisterFrame := fun _ _ _ h => ⟨exec_regs h, exec_sp h⟩

/-! ### Flags after an instruction -/

/-- The flags `g` are those of `f`, but for the ones that `ws` marks. -/
def Flags.AgreeOff (f ws g : Flags) : Prop :=
  (ws.s = false → g.s = f.s) ∧ (ws.z = false → g.z = f.z) ∧ (ws.ac = false → g.ac = f.ac) ∧
  (ws.p = false → g.p = f.p) ∧ (ws.cy = false → g.cy = f.cy)

theorem Flags.agreeOff_of_eq {f g : Flags} (ws : Flags) (h : g = f) : f.AgreeOff ws g := by
  subst h; exact ⟨fun _ => rfl, fun _ => rfl, fun _ => rfl, fun _ => rfl, fun _ => rfl⟩

theorem Flags.agreeOff_all (f g : Flags) : f.AgreeOff { s := true, z := true, ac := true, p := true, cy := true } g :=
  ⟨nofun, nofun, nofun, nofun, nofun⟩

theorem Flags.agreeOff_ofCount (f : Flags) (o : AluOut) :
    f.AgreeOff { s := true, z := true, ac := true, p := true, cy := false } (f.ofCount o) :=
  ⟨nofun, nofun, nofun, nofun, fun _ => rfl⟩

theorem Flags.agreeOff_setCy (f : Flags) (cy : Bool) :
    f.AgreeOff { s := false, z := false, ac := false, p := false, cy := true } { f with cy := cy } :=
  ⟨fun _ => rfl, fun _ => rfl, fun _ => rfl, fun _ => rfl, nofun⟩

/-- The rows of R33: all five flags, all but CY, CY alone, none. -/
theorem exec_flags {i : Instr} {s t : State} (h : exec i s = .next t) : s.flags.AgreeOff (flagsWritten i) t.flags := by
  cases i
  case addR | addM | adi | adcR | adcM | aci | subR | subM | sui | sbbR | sbbM | sbi | cmpR | cmpM | cpi | anaR | anaM
      | ani | xraR | xraM | xri | oraR | oraM | ori | daa | popPsw =>
    exact Flags.agreeOff_all _ _
  case inrR | inrM | dcrR | dcrM =>
    rw [eq_of_next h]
    exact s.flags.agreeOff_ofCount _
  case dad | rlc | rrc | ral | rar | stc | cmc =>
    rw [eq_of_next h]
    exact s.flags.agreeOff_setCy _
  case undocNop | undocJmp | undocRet | undocCall =>
    rw [eq_of_underPolicy h]
    exact Flags.agreeOff_of_eq _ (by simp)
  all_goals
    rw [eq_of_next h]
    exact Flags.agreeOff_of_eq _ (by simp)

/-- Settles O49, by `exec_flags`. -/
theorem flagFrame : Obligations.FlagFrame := fun _ _ _ => exec_flags

/-! ### INTE, int_inhibit, the halt state and the host's events after an operation -/

@[simp] theorem State.afterRead_events (k : Kind) (a : Word) (s : State) :
    (s.afterRead k a).host.events = s.host.events := by simp [State.afterRead]
@[simp] theorem State.write_events (k : Kind) (a : Word) (v : Byte) (s : State) :
    (s.write k a v).host.events = s.host.events := by simp [State.write]
@[simp] theorem State.afterRead16_events (k : Kind) (a : Word) (s : State) :
    (s.afterRead16 k a).host.events = s.host.events := by simp [State.afterRead16]
@[simp] theorem State.push16_events (w : Word) (s : State) :
    (s.push16 w).host.events = s.host.events := by simp [State.push16]
@[simp] theorem State.afterPop_events (s : State) :
    s.afterPop.host.events = s.host.events := by simp [State.afterPop]
@[simp] theorem State.callTo_events (a : Word) (s : State) :
    (s.callTo a).host.events = s.host.events := by simp [State.callTo]
@[simp] theorem State.returnFrom_events (s : State) :
    s.returnFrom.host.events = s.host.events := by simp [State.returnFrom]
@[simp] theorem State.afterInput_events (p : Byte) (s : State) :
    (s.afterInput p).host.events = s.host.events := by simp [State.afterInput]
@[simp] theorem State.output_events (p v : Byte) (s : State) :
    (s.output p v).host.events = s.host.events := by simp [State.output]

@[simp] theorem State.jumpIf_inte (cc : Cond) (a : Word) (s : State) : (s.jumpIf cc a).inte = s.inte := by
  obtain ⟨-, h⟩ | ⟨-, h⟩ := s.jumpIf_cases cc a <;> simp [h]
@[simp] theorem State.jumpIf_intInhibit (cc : Cond) (a : Word) (s : State) : (s.jumpIf cc a).intInhibit = s.intInhibit := by
  obtain ⟨-, h⟩ | ⟨-, h⟩ := s.jumpIf_cases cc a <;> simp [h]
@[simp] theorem State.jumpIf_halted (cc : Cond) (a : Word) (s : State) : (s.jumpIf cc a).halted = s.halted := by
  obtain ⟨-, h⟩ | ⟨-, h⟩ := s.jumpIf_cases cc a <;> simp [h]
@[simp] theorem State.jumpIf_events (cc : Cond) (a : Word) (s : State) : (s.jumpIf cc a).host.events = s.host.events := by
  obtain ⟨-, h⟩ | ⟨-, h⟩ := s.jumpIf_cases cc a <;> simp [h]

@[simp] theorem State.callIf_inte (cc : Cond) (a : Word) (s : State) : (s.callIf cc a).inte = s.inte := by
  obtain ⟨-, h⟩ | ⟨-, h⟩ := s.callIf_cases cc a <;> simp [h]
@[simp] theorem State.callIf_intInhibit (cc : Cond) (a : Word) (s : State) : (s.callIf cc a).intInhibit = s.intInhibit := by
  obtain ⟨-, h⟩ | ⟨-, h⟩ := s.callIf_cases cc a <;> simp [h]
@[simp] theorem State.callIf_halted (cc : Cond) (a : Word) (s : State) : (s.callIf cc a).halted = s.halted := by
  obtain ⟨-, h⟩ | ⟨-, h⟩ := s.callIf_cases cc a <;> simp [h]
@[simp] theorem State.callIf_events (cc : Cond) (a : Word) (s : State) : (s.callIf cc a).host.events = s.host.events := by
  obtain ⟨-, h⟩ | ⟨-, h⟩ := s.callIf_cases cc a <;> simp [h]

@[simp] theorem State.returnIf_inte (cc : Cond) (s : State) : (s.returnIf cc).inte = s.inte := by
  obtain ⟨-, h⟩ | ⟨-, h⟩ := s.returnIf_cases cc <;> simp [h]
@[simp] theorem State.returnIf_intInhibit (cc : Cond) (s : State) : (s.returnIf cc).intInhibit = s.intInhibit := by
  obtain ⟨-, h⟩ | ⟨-, h⟩ := s.returnIf_cases cc <;> simp [h]
@[simp] theorem State.returnIf_halted (cc : Cond) (s : State) : (s.returnIf cc).halted = s.halted := by
  obtain ⟨-, h⟩ | ⟨-, h⟩ := s.returnIf_cases cc <;> simp [h]
@[simp] theorem State.returnIf_events (cc : Cond) (s : State) : (s.returnIf cc).host.events = s.host.events := by
  obtain ⟨-, h⟩ | ⟨-, h⟩ := s.returnIf_cases cc <;> simp [h]

/-! ### INTE, int_inhibit and the halt state after an instruction -/

/-- INTE after an instruction (R36): EI sets it, DI clears it. -/
def inteAfter (i : Instr) (s : State) : Bool :=
  match i with
  | .ei => true
  | .di => false
  | _ => s.inte

/-- int_inhibit after an instruction (R37): EI sets it. -/
def intInhibitAfter (i : Instr) (s : State) : Bool :=
  match i with
  | .ei => true
  | _ => s.intInhibit

/-- The halt state after an instruction (R39): HLT enters it. -/
def haltedAfter (i : Instr) (s : State) : Bool :=
  match i with
  | .hlt => true
  | _ => s.halted

theorem inteAfter_of_ne {i : Instr} (s : State) (hei : i ≠ .ei) (hdi : i ≠ .di) : inteAfter i s = s.inte := by
  unfold inteAfter
  split
  · exact absurd rfl hei
  · exact absurd rfl hdi
  · rfl

theorem intInhibitAfter_of_ne {i : Instr} (s : State) (hei : i ≠ .ei) : intInhibitAfter i s = s.intInhibit := by
  unfold intInhibitAfter
  split
  · exact absurd rfl hei
  · rfl

theorem haltedAfter_of_ne {i : Instr} (s : State) (hhlt : i ≠ .hlt) : haltedAfter i s = s.halted := by
  unfold haltedAfter
  split
  · exact absurd rfl hhlt
  · rfl

theorem outputsOf_of_ne {i : Instr} (s : State) (hout : ∀ port, i ≠ .outPort port) : outputsOf i s = [] := by
  unfold outputsOf
  split
  · exact absurd rfl (hout _)
  · rfl

/-- The rows of R36, R37 and R39, and that no instruction takes an event of the host (R305), instruction by instruction. -/
theorem exec_control {i : Instr} {s t : State} (h : exec i s = .next t) :
    t.inte = inteAfter i s ∧ t.intInhibit = intInhibitAfter i s ∧ t.halted = haltedAfter i s ∧
      t.host.events = s.host.events := by
  cases i
  case undocNop | undocJmp | undocRet | undocCall =>
    rw [eq_of_underPolicy h]
    simp [inteAfter, intInhibitAfter, haltedAfter]
  all_goals
    rw [eq_of_next h]
    simp [inteAfter, intInhibitAfter, haltedAfter]

/-- Settles O51: the outputs and the platform by `exec_outputs`, the rest by `exec_control`. -/
theorem controlFrame : Obligations.ControlFrame := by
  intro i s t h
  obtain ⟨hcfg, hout⟩ := exec_outputs h
  obtain ⟨hinte, hinhibit, hhalted, hevents⟩ := exec_control h
  refine ⟨fun hei hdi => ?_, fun hei => ?_, fun hhlt => ?_, fun hne => ?_, hcfg, hevents⟩
  · rw [hinte, inteAfter_of_ne s hei hdi]
  · rw [hinhibit, intInhibitAfter_of_ne s hei]
  · rw [hhalted, haltedAfter_of_ne s hhlt]
  · rw [hout, outputsOf_of_ne s hne, List.append_nil]

end Sys2Proof.Machine
end

section
/-! SUPPORT. The canonical form of the memories (R60), and what an instruction does outside the processor after its own bytes are
fetched: its accesses as data, in the order of R81. That every step keeps the canonical form, what an instruction leaves of
memory as it was, and which machine cycles it performs, are read from these accesses. -/

namespace Sys2Proof.Machine

/-! ### Canonical memories -/

/-- Settles O8: the reset state lists no byte in either memory. -/
theorem resetMemoryCanonical : Obligations.ResetMemoryCanonical := rfl

/-- The least address of a canonical memory reads as a listed byte, so no memory that is canonical above it reads alike. -/
theorem Memory.not_get_cons_eq {k : Nat} {v : Byte} {m n : Memory} {lo lo' : Nat}
    (hm : Memory.wfFrom lo ((k, v) :: m) = true) (hn : Memory.wfFrom lo' n = true) (hk : k < lo') :
    ¬ ∀ a, Memory.get ((k, v) :: m) a = n.get a := by
  intro h
  obtain ⟨-, -, hv, -⟩ := Memory.wfFrom_cons.1 hm
  have hread := h k
  rw [Memory.get_below hn hk, Memory.get, if_pos rfl] at hread
  exact hv hread

/-- Canonical memories of the same first entry that read alike have tails that read alike. -/
theorem Memory.get_tail_eq {k : Nat} {v w : Byte} {m n : Memory} (hm : Memory.wfFrom (k + 1) m = true)
    (hn : Memory.wfFrom (k + 1) n = true) (h : ∀ a, Memory.get ((k, v) :: m) a = Memory.get ((k, w) :: n) a) (a : Nat) :
    m.get a = n.get a := by
  by_cases ha : a = k
  · rw [Memory.get_below hm (by omega), Memory.get_below hn (by omega)]
  · simpa [Memory.get, ha] using h a

theorem Memory.eq_of_get_eq {m n : Memory} {lo : Nat} (hm : Memory.wfFrom lo m = true) (hn : Memory.wfFrom lo n = true)
    (h : ∀ a, m.get a = n.get a) : m = n := by
  induction m generalizing lo n with
  | nil =>
    cases n with
    | nil => rfl
    | cons e n =>
      exact absurd (fun a => (h a).symm) (Memory.not_get_cons_eq (lo' := e.1 + 1) hn rfl (Nat.lt_succ_self _))
  | cons e m ih =>
    obtain ⟨k, v⟩ := e
    cases n with
    | nil => exact absurd h (Memory.not_get_cons_eq (lo' := k + 1) hm rfl (Nat.lt_succ_self k))
    | cons e n =>
      obtain ⟨l, w⟩ := e
      obtain ⟨-, hkb, hv, hm'⟩ := Memory.wfFrom_cons.1 hm
      obtain ⟨-, hlb, hw, hn'⟩ := Memory.wfFrom_cons.1 hn
      obtain hlt | rfl | hlt := Nat.lt_trichotomy k l
      · exact absurd h (Memory.not_get_cons_eq hm (Memory.wfFrom_cons.2 ⟨le_refl l, hlb, hw, hn'⟩) hlt)
      · have hhead : v = w := by simpa [Memory.get] using h k
        rw [hhead, ih hm' hn' (Memory.get_tail_eq hm' hn' h)]
      · exact absurd (fun a => (h a).symm)
          (Memory.not_get_cons_eq hn (Memory.wfFrom_cons.2 ⟨le_refl k, hkb, hv, hm'⟩) hlt)

/-- Settles O10: `Memory.eq_of_get_eq` from address 0 on. -/
theorem canonicalMemoryUnique : Obligations.CanonicalMemoryUnique := fun _ _ hm hn h => Memory.eq_of_get_eq hm hn h

/-! ### What a write reaches -/

/-- Only accesses to the stack can go to a memory of their own (R82). -/
theorem State.apart_of_ne_stack (s : State) {k : Kind} (hk : k ≠ .stack) : s.apart k = false := by
  simp [State.apart, hk]

/-- The byte of memory, not the kind of the access, decides whether a write takes effect. -/
theorem State.writable_congr {s : State} {j k : Kind} (h : s.apart j = s.apart k) (a : Word) :
    s.writable j a = s.writable k a := by
  simp only [State.writable, h]

theorem State.stored_of_writable {s : State} {j k : Kind} {a : Word} (h : s.apart j = s.apart k)
    (hw : s.writable j a = true) : s.stored k a = true := by
  rw [State.writable_congr h] at hw
  simp only [State.writable, Bool.or_eq_true] at hw
  simp only [State.stored, Bool.or_eq_true]
  exact .inl hw

/-- Settles O25: STA leaves PC, and the fetch and the store reach the same memory. -/
theorem nextFetchSeesStore : Obligations.NextFetchSeesStore := by
  intro s t hinv hsole hw h
  rw [eq_of_next h]
  have hsame : s.apart .opcode = s.apart .data := by
    rw [s.apart_of_ne_stack (by decide), s.apart_of_ne_stack (by decide)]
  have hstored : (s.write .data s.pc s.regs.a).stored .opcode s.pc = true := by
    rw [State.write_stored]
    exact State.stored_of_writable hsame.symm hw
  have hread : ((s.write .data s.pc s.regs.a).tick 13).readVal .opcode s.pc
      = (s.write .data s.pc s.regs.a).byteAt .opcode s.pc :=
    State.readVal_sole (s := (s.write .data s.pc s.regs.a).tick 13) (State.write_soleMaster hsole _ _ _) hstored
  refine ⟨s.write_pc .data s.pc s.regs.a, ?_⟩
  rw [State.fetchVal, State.tick_pc, State.write_pc, hread, State.byteAt_write hinv hsole, if_pos ⟨hw, hsame, rfl⟩]

/-! ### Accesses as data -/

/-- One access of an instruction outside the processor (R14), with what it writes. -/
inductive Access where
  | read (k : Kind) (a : Word)
  | write (k : Kind) (a : Word) (v : Byte)
  | input (port : Byte)
  | output (port : Byte) (v : Byte)
  /-- The halt-acknowledge cycle, which moves nothing (R68, R81). -/
  | haltAck

/-- The state after an access: the model's own operations. -/
def Access.run (s : State) : Access → State
  | .read k a => s.afterRead k a
  | .write k a v => s.write k a v
  | .input port => s.afterInput port
  | .output port v => s.output port v
  | .haltAck => s.busTurn.record .haltAck

/-- The byte an access stores to, with the memory it goes to. -/
def Access.target : Access → Option (Kind × Word)
  | .write k a _ => some (k, a)
  | .read _ _ | .input _ | .output _ _ | .haltAck => none

/-- Status byte and address bus of an access; neither depends on the byte moved. -/
def Access.shape : Access → Byte × Option Word
  | .read k a => (k.readCycle a 0#8).shape
  | .write k a v => (k.writeCycle a v).shape
  | .input port => (BusCycle.input port 0#8).shape
  | .output port v => (BusCycle.output port v).shape
  | .haltAck => BusCycle.haltAck.shape

/-- The two accesses of `Push16` (R72). -/
def pushes (w : Word) (s : State) : List Access :=
  [.write .stack (s.sp - 1#16) (hi8 w), .write .stack (s.sp - 2#16) (lo8 w)]

/-- The two accesses of `Pop16` (R72). -/
def pops (s : State) : List Access := [.read .stack s.sp, .read .stack (s.sp + 1#16)]

/-- The accesses of an instruction after its own bytes are fetched, in order (R81). -/
def accessesOf (i : Instr) (s : State) : List Access :=
  match i with
  | .movRM _ | .addM | .adcM | .subM | .sbbM | .anaM | .xraM | .oraM | .cmpM => [.read .data s.regs.hl]
  | .movMR src => [.write .data s.regs.hl (s.reg src)]
  | .mviM v => [.write .data s.regs.hl v]
  | .inrM => [.read .data s.regs.hl, .write .data s.regs.hl (add8 (s.readVal .data s.regs.hl) 1#8 false).v]
  | .dcrM => [.read .data s.regs.hl, .write .data s.regs.hl (sub8 (s.readVal .data s.regs.hl) 1#8 false).v]
  | .lda a => [.read .data a]
  | .sta a => [.write .data a s.regs.a]
  | .lhld a => [.read .data a, .read .data (a + 1#16)]
  | .shld a => [.write .data a s.regs.l, .write .data (a + 1#16) s.regs.h]
  | .ldax p => [.read .data (s.regs.indexPair p)]
  | .stax p => [.write .data (s.regs.indexPair p) s.regs.a]
  | .pushRp p => pushes (s.regs.stackPair p) s
  | .pushPsw => pushes (joinBytes s.regs.a s.flags.byte) s
  | .call _ | .rst _ | .undocCall _ _ => pushes s.pc s
  | .cnz _ | .cz _ | .cnc _ | .cc _ | .cpo _ | .cpe _ | .cp _ | .cm _ => if acts i s then pushes s.pc s else []
  | .popRp _ | .popPsw | .ret | .undocRet => pops s
  | .rnz | .rz | .rnc | .rc | .rpo | .rpe | .rp | .rm => if acts i s then pops s else []
  | .xthl => pops s ++ [.write .stack (s.sp + 1#16) s.regs.h, .write .stack s.sp s.regs.l]
  | .inPort port => [.input port]
  | .outPort port => [.output port s.regs.a]
  | .hlt => [.haltAck]
  | _ => []

theorem target_ite (c : Bool) (xs : List Access) :
    (if c then xs else []).filterMap Access.target = if c then xs.filterMap Access.target else [] := by
  cases c <;> rfl

theorem shape_ite (c : Bool) (xs : List Access) :
    (if c then xs else []).map Access.shape = if c then xs.map Access.shape else [] := by
  cases c <;> rfl

/-- The bytes stored to are those of the model's table. -/
theorem storesTo_eq (i : Instr) (s : State) : storesTo i s = (accessesOf i s).filterMap Access.target := by
  cases i
  case cnz | cz | cnc | cc | cpo | cpe | cp | cm => exact (target_ite _ (pushes s.pc s)).symm
  case rnz | rz | rnc | rc | rpo | rpe | rp | rm => exact ((target_ite (acts _ s) (pops s)).trans (ite_self _)).symm
  all_goals rfl

/-- The machine cycles are those of the model's table. -/
theorem accesses_eq (i : Instr) (s : State) : accesses i s = (accessesOf i s).map Access.shape := by
  cases i
  case cnz | cz | cnc | cc | cpo | cpe | cp | cm => exact (shape_ite _ (pushes s.pc s)).symm
  case rnz | rz | rnc | rc | rpo | rpe | rp | rm => exact (shape_ite _ (pops s)).symm
  all_goals rfl

/-! ### An instruction does its accesses -/

/-- The two states have the same memories, record of machine cycles and parameters. -/
structure State.AgreeOutside (t u : State) : Prop where
  mem : t.mem = u.mem
  stackMem : t.stackMem = u.stackMem
  bus : t.bus = u.bus
  cfg : t.cfg = u.cfg

theorem State.AgreeOutside.inv {t u : State} (h : t.AgreeOutside u) : t.inv = u.inv := by
  simp only [State.inv, h.mem, h.stackMem]

theorem State.AgreeOutside.byteAt {t u : State} (h : t.AgreeOutside u) (k : Kind) (a : Word) :
    t.byteAt k a = u.byteAt k a := by
  have hapart : t.apart k = u.apart k := by rw [State.apart, State.apart, h.cfg]
  rw [State.byteAt, State.byteAt, hapart, h.mem, h.stackMem]

theorem State.agreeOutside_of_eq {t u : State} (h : t = u) : t.AgreeOutside u := by
  subst h; exact ⟨rfl, rfl, rfl, rfl⟩

/-- A state with the memories, record and parameters of one that agrees. -/
theorem State.AgreeOutside.of_fields {t t' u : State} (h : t.AgreeOutside u) (hmem : t'.mem = t.mem)
    (hstack : t'.stackMem = t.stackMem) (hbus : t'.bus = t.bus) (hcfg : t'.cfg = t.cfg) : t'.AgreeOutside u :=
  ⟨hmem.trans h.mem, hstack.trans h.stackMem, hbus.trans h.bus, hcfg.trans h.cfg⟩

/-! The states that the model writes for two accesses in a row. -/

theorem afterRead16_eq_foldl_run (s : State) (k : Kind) (a : Word) :
    s.afterRead16 k a = [Access.read k a, .read k (a + 1#16)].foldl Access.run s := rfl

theorem read_write_eq_foldl_run (s : State) (j k : Kind) (a b : Word) (v : Byte) :
    (s.afterRead j a).write k b v = [Access.read j a, .write k b v].foldl Access.run s := rfl

theorem write_write_eq_foldl_run (s : State) (j k : Kind) (a b : Word) (v w : Byte) :
    (s.write j a v).write k b w = [Access.write j a v, .write k b w].foldl Access.run s := rfl

theorem read16_write_write_eq_foldl_run (s : State) (k : Kind) (a b c : Word) (v w : Byte) :
    ((s.afterRead16 k a).write k b v).write k c w
      = [Access.read k a, .read k (a + 1#16), .write k b v, .write k c w].foldl Access.run s := rfl

theorem State.agreeOutside_push16 (s : State) (w : Word) :
    (s.push16 w).AgreeOutside ((pushes w s).foldl Access.run s) :=
  (State.agreeOutside_of_eq (write_write_eq_foldl_run s _ _ _ _ _ _)).of_fields rfl rfl rfl rfl

theorem State.agreeOutside_afterPop (s : State) : s.afterPop.AgreeOutside ((pops s).foldl Access.run s) :=
  (State.agreeOutside_of_eq (afterRead16_eq_foldl_run s _ _)).of_fields rfl rfl rfl rfl

theorem State.agreeOutside_setPair (s : State) (p : Pair) (w : Word) : (s.setPair p w).AgreeOutside s := by
  cases p <;> exact ⟨rfl, rfl, rfl, rfl⟩

theorem State.agreeOutside_jumpIf (s : State) (cc : Cond) (a : Word) : (s.jumpIf cc a).AgreeOutside s := by
  obtain ⟨-, h⟩ | ⟨-, h⟩ := s.jumpIf_cases cc a <;> rw [h] <;> exact ⟨rfl, rfl, rfl, rfl⟩

theorem State.agreeOutside_callIf (s : State) (cc : Cond) (a : Word) :
    (s.callIf cc a).AgreeOutside ((if s.flags.holds cc then pushes s.pc s else []).foldl Access.run s) := by
  obtain ⟨hc, h⟩ | ⟨hc, h⟩ := s.callIf_cases cc a <;> rw [h, hc]
  · exact (s.agreeOutside_push16 s.pc).of_fields rfl rfl rfl rfl
  · exact ⟨rfl, rfl, rfl, rfl⟩

theorem State.agreeOutside_returnIf (s : State) (cc : Cond) :
    (s.returnIf cc).AgreeOutside ((if s.flags.holds cc then pops s else []).foldl Access.run s) := by
  obtain ⟨hc, h⟩ | ⟨hc, h⟩ := s.returnIf_cases cc <;> rw [h, hc]
  · exact s.agreeOutside_afterPop.of_fields rfl rfl rfl rfl
  · exact ⟨rfl, rfl, rfl, rfl⟩

/-- Outside the processor an instruction does its accesses and nothing else. -/
theorem exec_agreeOutside {i : Instr} {s t : State} (h : exec i s = .next t) :
    t.AgreeOutside ((accessesOf i s).foldl Access.run s) := by
  cases i
  case lxi p _ | inx p | dcx p =>
    rw [eq_of_next h]
    exact (s.agreeOutside_setPair p _).of_fields rfl rfl rfl rfl
  case jnz | jz | jnc | jc | jpo | jpe | jp | jm =>
    rw [eq_of_next h]
    exact s.agreeOutside_jumpIf _ _
  case cnz | cz | cnc | cc | cpo | cpe | cp | cm =>
    rw [eq_of_next h]
    exact s.agreeOutside_callIf _ _
  case rnz | rz | rnc | rc | rpo | rpe | rp | rm =>
    rw [eq_of_next h]
    exact s.agreeOutside_returnIf _
  case inrM | dcrM =>
    rw [eq_of_next h]
    exact (State.agreeOutside_of_eq (read_write_eq_foldl_run s _ _ _ _ _)).of_fields rfl rfl rfl rfl
  case lhld =>
    rw [eq_of_next h]
    exact (State.agreeOutside_of_eq (afterRead16_eq_foldl_run s _ _)).of_fields rfl rfl rfl rfl
  case shld =>
    rw [eq_of_next h]
    exact (State.agreeOutside_of_eq (write_write_eq_foldl_run s _ _ _ _ _ _)).of_fields rfl rfl rfl rfl
  case xthl =>
    rw [eq_of_next h]
    exact (State.agreeOutside_of_eq (read16_write_write_eq_foldl_run s _ _ _ _ _ _)).of_fields rfl rfl rfl rfl
  case pushRp | pushPsw | call | rst =>
    rw [eq_of_next h]
    exact (s.agreeOutside_push16 _).of_fields rfl rfl rfl rfl
  case popRp | popPsw | ret =>
    rw [eq_of_next h]
    exact s.agreeOutside_afterPop.of_fields rfl rfl rfl rfl
  case undocCall =>
    rw [eq_of_underPolicy h]
    exact (s.agreeOutside_push16 s.pc).of_fields rfl rfl rfl rfl
  case undocRet =>
    rw [eq_of_underPolicy h]
    exact s.agreeOutside_afterPop.of_fields rfl rfl rfl rfl
  case undocNop | undocJmp =>
    rw [eq_of_underPolicy h]
    exact ⟨rfl, rfl, rfl, rfl⟩
  all_goals
    rw [eq_of_next h]
    exact ⟨rfl, rfl, rfl, rfl⟩

/-! ### The canonical form along a step -/

theorem Access.inv_run {s : State} (h : s.inv = true) (x : Access) : (x.run s).inv = true := by
  cases x with
  | read k a => exact State.inv_afterRead h k a
  | write k a v => exact State.inv_write h k a v
  | input port => exact State.inv_afterInput h port
  | output port v => exact State.inv_output h port v
  | haltAck => exact State.inv_busTurn h

theorem inv_foldl_run {s : State} (h : s.inv = true) (xs : List Access) : (xs.foldl Access.run s).inv = true := by
  induction xs generalizing s with
  | nil => exact h
  | cons x xs ih => exact ih (x.inv_run h)

theorem inv_exec {i : Instr} {s t : State} (hs : s.inv = true) (h : exec i s = .next t) : t.inv = true := by
  rw [(exec_agreeOutside h).inv]
  exact inv_foldl_run hs _

theorem State.inv_afterFetch {s : State} (h : s.inv = true) (k : Kind) : (s.afterFetch k).inv = true :=
  State.inv_afterRead h k s.pc

theorem State.inv_fetchExec {s t : State} (hs : s.inv = true) (h : s.fetchExec = .next t) : t.inv = true := by
  have h1 := State.inv_afterFetch hs .opcode
  have h2 := State.inv_afterFetch h1 .operand
  have h3 := State.inv_afterFetch h2 .operand
  obtain ⟨-, h'⟩ | ⟨-, h'⟩ | ⟨-, h'⟩ := s.fetchExec_cases <;> rw [h'] at h
  · exact inv_exec h1 h
  · exact inv_exec h2 h
  · exact inv_exec h3 h

theorem State.inv_proceed {s t : State} (hs : s.inv = true) (h : s.proceed = .next t) : t.inv = true := by
  unfold State.proceed at h
  split at h
  · rw [eq_of_next h]
    exact State.inv_busTurn hs
  · exact State.inv_fetchExec hs h

theorem State.inv_acceptInterrupt {ev : HostEvent} {s t : State} (hs : s.inv = true)
    (h : s.acceptInterrupt ev = .next t) : t.inv = true := by
  have hack := State.inv_acknowledge (s := s.beginInterrupt) hs s.halted ev.ack1
  obtain ⟨-, ⟨-, h'⟩ | ⟨-, -, h'⟩ | ⟨-, -, -, h'⟩ | h'⟩ | ⟨-, h'⟩ := s.acceptInterrupt_cases ev <;> rw [h'] at h
  · rw [eq_of_next h]
    exact State.inv_callTo hack ((ev.ack1 &&& 0x38#8).setWidth 16)
  · rw [eq_of_next h]
    exact State.inv_callTo (State.inv_acknowledge (State.inv_acknowledge hack false ev.ack2) false ev.ack3)
      (joinBytes ev.ack3 ev.ack2)
  · exact inv_exec hack h
  · cases h
  · cases h

theorem State.inv_boundary {ev : HostEvent} {s t : State} (hs : s.inv = true) (h : s.boundary ev = .next t) :
    t.inv = true := by
  obtain ⟨-, h'⟩ | ⟨-, h'⟩ | ⟨-, -, -, h'⟩ | ⟨-, h'⟩ := s.boundary_cases ev <;> rw [h'] at h
  · cases h
  · exact State.inv_proceed (s := { s with intInhibit := false }) hs h
  · exact State.inv_acceptInterrupt hs h
  · exact State.inv_proceed hs h

theorem State.inv_foldl_keepCycle {s : State} (h : s.inv = true) (cs : List BusCycle) :
    (cs.foldl State.keepCycle s).inv = true := by
  induction cs generalizing s with
  | nil => exact h
  | cons c cs ih => exact ih (State.inv_keepCycle h c)

/-- What RESET inside a step leaves comes from the completed cycles alone (R342). -/
theorem State.inv_abandon {n : Nat} {ev : HostEvent} {s t : State} (hs : s.inv = true) (h : s.abandon n ev = .next t) :
    t.inv = true := by
  obtain ⟨-, h'⟩ | ⟨-, ⟨u, -, h'⟩ | ⟨_, -, h'⟩ | ⟨_, -, h'⟩⟩ := s.abandon_cases n ev <;> rw [h'] at h
  · rw [eq_of_next h]
    exact hs
  · rw [eq_of_next h]
    exact State.inv_foldl_keepCycle hs (u.bus.take n)
  · cases h
  · cases h

/-- Settles O9, branch by branch of a step; opening the step and `Reset()` write no memory. -/
theorem stepKeepsMemoryCanonical : Obligations.StepKeepsMemoryCanonical := by
  intro s t hs h
  have hopen : s.openStep.inv = true := hs
  obtain ⟨-, h'⟩ | ⟨-, -, h'⟩ | ⟨-, ⟨u, hu, h'⟩ | ⟨_, -, h'⟩ | ⟨_, -, h'⟩⟩ := step_cases s <;> rw [h'] at h
  · exact State.inv_boundary hopen h
  · cases h
  · have hleft : u.inv = true := State.inv_abandon hopen hu
    rw [eq_of_next h]
    exact hleft
  · cases h
  · cases h

/-! ### The frame of memory -/

@[simp] theorem Access.run_cfg (x : Access) (s : State) : (x.run s).cfg = s.cfg := by
  cases x <;> simp [Access.run]

theorem Access.run_soleMaster {s : State} (h : s.soleMaster) (x : Access) : (x.run s).soleMaster := by
  have hturn : s.busTurn.soleMaster := by rw [State.busTurn_sole h]; exact h
  cases x with
  | read k a => exact State.afterRead_soleMaster h k a
  | write k a v => exact State.write_soleMaster h k a v
  | input | output | haltAck => exact hturn

/-- The access stores to no byte that a `k` at `a` reaches, or no write changes that byte. -/
def Access.Spares (s : State) (k : Kind) (a : Word) (x : Access) : Prop :=
  (∀ j b, x.target = some (j, b) → s.apart j = s.apart k → b ≠ a) ∨ s.writable k a = false

theorem Access.byteAt_run {s : State} (h : s.inv = true) (hs : s.soleMaster) {k : Kind} {a : Word} {x : Access}
    (hx : x.Spares s k a) : (x.run s).byteAt k a = s.byteAt k a := by
  have hturn : s.busTurn.byteAt k a = s.byteAt k a := by rw [State.busTurn_sole hs]
  cases x with
  | read j b => exact State.byteAt_afterRead hs j k b a
  | write j b v =>
    refine (State.byteAt_write h hs j k b a v).trans (if_neg ?_)
    rintro ⟨hw, hapart, rfl⟩
    obtain hfar | hro := hx
    · exact hfar j a rfl hapart.symm rfl
    · rw [State.writable_congr hapart.symm, hro] at hw
      cases hw
  | input | output | haltAck => exact hturn

theorem Access.spares_run (x y : Access) {s : State} {k : Kind} {a : Word} :
    y.Spares (x.run s) k a ↔ y.Spares s k a := by
  simp [Access.Spares, State.apart, State.writable]

theorem byteAt_foldl_run {s : State} (h : s.inv = true) (hs : s.soleMaster) {k : Kind} {a : Word} {xs : List Access}
    (hxs : ∀ x ∈ xs, x.Spares s k a) : (xs.foldl Access.run s).byteAt k a = s.byteAt k a := by
  induction xs generalizing s with
  | nil => rfl
  | cons x xs ih =>
    obtain ⟨hx, hrest⟩ := List.forall_mem_cons.1 hxs
    have htail := ih (x.inv_run h) (x.run_soleMaster hs) fun y hy => (x.spares_run y).2 (hrest y hy)
    exact htail.trans (Access.byteAt_run h hs hx)

/-- Settles O50: the bytes stored to are the targets of the accesses, and every access spares the byte asked for. -/
theorem memoryFrame : Obligations.MemoryFrame := by
  intro i s t hinv hsole h k a hfar
  rw [(exec_agreeOutside h).byteAt]
  refine byteAt_foldl_run hinv hsole fun x hx => hfar.imp_left fun hstores j b htarget => hstores j b ?_
  rw [storesTo_eq]
  exact List.mem_filterMap.2 ⟨x, hx, htarget⟩

/-! ### The machine cycles of an instruction -/

theorem Kind.readCycle_shape (k : Kind) (a : Word) (v w : Byte) : (k.readCycle a v).shape = (k.readCycle a w).shape := by
  cases k <;> rfl

/-- An access records one machine cycle, of its shape. -/
theorem Access.run_bus (x : Access) (s : State) :
    (x.run s).bus.map BusCycle.shape = s.bus.map BusCycle.shape ++ [x.shape] := by
  cases x with
  | read k a => simp [Access.run, Access.shape, k.readCycle_shape a _ 0#8]
  | write k a v => simp [Access.run, Access.shape]
  | input port => simp [Access.run, Access.shape, State.afterInput, BusCycle.shape, BusCycle.status, BusCycle.address]
  | output port v => simp [Access.run, Access.shape]
  | haltAck => simp [Access.run, Access.shape]

theorem bus_foldl_run (xs : List Access) (s : State) :
    (xs.foldl Access.run s).bus.map BusCycle.shape = s.bus.map BusCycle.shape ++ xs.map Access.shape := by
  induction xs generalizing s with
  | nil => simp
  | cons x xs ih => rw [List.foldl_cons, ih, x.run_bus, List.map_cons, List.append_assoc, List.singleton_append]

/-- Settles O52: one machine cycle for each access, and the table of R81 by `accesses_eq`. -/
theorem accessOrder : Obligations.AccessOrder := by
  intro i s t h
  rw [(exec_agreeOutside h).bus, bus_foldl_run, accesses_eq]

end Sys2Proof.Machine
end

section
/-! SUPPORT. The decoder and the encoder against each other (R101 to R112): what the length of R108 makes of a list of bytes, the
opcode map of R107 read by the fields of R103, and the two round trips. -/

namespace Sys2Proof

open Sys2Proof.Machine

/-! ### The length of an instruction -/

theorem opLength_cases (op : Byte) : opLength op = 1 ∨ opLength op = 2 ∨ opLength op = 3 := by
  unfold opLength; split_ifs <;> simp

theorem opLength_pos (op : Byte) : 0 < opLength op := by
  obtain h | h | h := opLength_cases op <;> rw [h] <;> decide

/-- Settles O3: the formula of R108 against its lists, over the 256 first bytes. -/
theorem opcodeLengths : Obligations.OpcodeLengths := by
  unfold Obligations.OpcodeLengths
  decide

/-! ### What the decoder answers -/

theorem decode_of_length_one {op : Byte} (h : opLength op = 1) (rest : List Byte) :
    decode (op :: rest) = .instr (decodeFields op 0#8 0#8) rest := by
  simp only [decode, h]

theorem decode_of_length_two {op : Byte} (h : opLength op = 2) (b2 : Byte) (rest : List Byte) :
    decode (op :: b2 :: rest) = .instr (decodeFields op b2 0#8) rest := by
  simp only [decode, h]

theorem decode_of_length_three {op : Byte} (h : opLength op = 3) (b2 b3 : Byte) (rest : List Byte) :
    decode (op :: b2 :: b3 :: rest) = .instr (decodeFields op b2 b3) rest := by
  simp only [decode, h]

theorem decode_of_short {op : Byte} {rest : List Byte} (h : (op :: rest).length < opLength op) :
    decode (op :: rest) = .rejected .truncated := by
  obtain hl | hl | hl := opLength_cases op <;> rw [hl] at h
  · simp at h
  · obtain rfl : rest = [] := by simpa using h
    simp only [decode, hl]
  · match rest, h with
    | [], _ => simp only [decode, hl]
    | [_], _ => simp only [decode, hl]

theorem decode_of_long {op : Byte} {rest : List Byte} (h : opLength op ≤ (op :: rest).length) :
    ∃ i after, decode (op :: rest) = .instr i after := by
  obtain hl | hl | hl := opLength_cases op <;> rw [hl] at h
  · exact ⟨_, _, decode_of_length_one hl rest⟩
  · match rest, h with
    | b2 :: rest, _ => exact ⟨_, _, decode_of_length_two hl b2 rest⟩
  · match rest, h with
    | b2 :: b3 :: rest, _ => exact ⟨_, _, decode_of_length_three hl b2 b3 rest⟩

/-- Settles O4: a list with a first byte is rejected where it is shorter than R108 says, by `decode_of_short`, and nowhere else,
by `decode_of_long`. -/
theorem onlyShortInputRejected : Obligations.OnlyShortInputRejected := by
  intro bytes
  constructor
  · rintro ⟨why, hwhy⟩
    match bytes with
    | [] => exact .inl rfl
    | op :: rest =>
      refine .inr ⟨op, rest, rfl, not_le.1 fun hlong => ?_⟩
      obtain ⟨i, after, hi⟩ := decode_of_long hlong
      cases hi.symm.trans hwhy
  · rintro (rfl | ⟨op, rest, rfl, hshort⟩)
    · exact ⟨.empty, rfl⟩
    · exact ⟨.truncated, decode_of_short hshort⟩

/-! ### The bytes of the instruction that the opcode map gives -/

/-- The opcode of the fields `x`, `y` and `z` of R103. -/
def opcodeOf (x y z : Nat) : Byte := BitVec.ofNat 8 (64 * x + 8 * y + z)

theorem opcodeOf_fields (op : Byte) : opcodeOf (opX op) (opY op) (opZ op) = op := by
  apply BitVec.eq_of_toNat_eq
  simp only [opcodeOf, opX, opY, opZ, BitVec.toNat_ofNat]
  omega

/-- The bytes of an instruction with this opcode and the operand that its length leaves room for (R103, R105). -/
def layout (op d8 : Byte) (d16 : Word) : List Byte :=
  match opLength op with
  | 1 => [op]
  | 2 => [op, d8]
  | _ => wideForm op d16

theorem layout_joinBytes (op b2 b3 : Byte) : layout op b2 (joinBytes b3 b2) = [op, b2, b3].take (opLength op) := by
  obtain h | h | h := opLength_cases op <;> simp [layout, h, wideForm]

/-- A well-formed instruction whose encoding is `layout op d8 d16`. -/
def Instr.SpelledBy (op d8 : Byte) (d16 : Word) (i : Instr) : Prop :=
  i.wellFormed = true ∧ encode i = layout op d8 d16

/-! Each quarter of R107 by its 64 cells; in each the length and the encoding are those of one opcode, the operands symbolic. -/

section
variable {y z : Nat} (hy : y < 8) (hz : z < 8) (d8 : Byte) (d16 : Word)
include hy hz

theorem decodeLow_spelledBy : (decodeLow z y d8 d16).SpelledBy (opcodeOf 0 y z) d8 d16 := by
  interval_cases z <;> interval_cases y <;> exact ⟨rfl, rfl⟩

theorem decodeMove_spelledBy : (decodeMove z y).SpelledBy (opcodeOf 1 y z) d8 d16 := by
  interval_cases z <;> interval_cases y <;> exact ⟨rfl, rfl⟩

theorem decodeAlu_spelledBy : (decodeAlu z y).SpelledBy (opcodeOf 2 y z) d8 d16 := by
  interval_cases z <;> interval_cases y <;> exact ⟨rfl, rfl⟩

theorem decodeHigh_spelledBy : (decodeHigh z y d8 d16).SpelledBy (opcodeOf 3 y z) d8 d16 := by
  interval_cases z <;> interval_cases y <;> exact ⟨rfl, rfl⟩

end

theorem decodeFields_spelledBy (op b2 b3 : Byte) : (decodeFields op b2 b3).SpelledBy op b2 (joinBytes b3 b2) := by
  have hop := opcodeOf_fields op
  have hx : opX op < 4 := by unfold opX; omega
  have hy : opY op < 8 := Nat.mod_lt _ (by decide)
  have hz : opZ op < 8 := Nat.mod_lt _ (by decide)
  unfold decodeFields
  generalize opX op = x, opY op = y, opZ op = z at *
  subst hop
  match x, hx with
  | 0, _ => exact decodeLow_spelledBy hy hz b2 (joinBytes b3 b2)
  | 1, _ => exact decodeMove_spelledBy hy hz b2 (joinBytes b3 b2)
  | 2, _ => exact decodeAlu_spelledBy hy hz b2 (joinBytes b3 b2)
  | 3, _ => exact decodeHigh_spelledBy hy hz b2 (joinBytes b3 b2)

/-- Settles O2: `decodeFields_spelledBy` says which bytes, and `layout_joinBytes` that they are the ones read. -/
theorem encodeDecodeAgree : Obligations.EncodeDecodeAgree := by
  intro op b2 b3
  obtain ⟨hwf, hbytes⟩ := decodeFields_spelledBy op b2 b3
  exact ⟨hwf, hbytes.trans (layout_joinBytes op b2 b3)⟩

/-! ### The instruction that an encoding gives -/

theorem decodeFields_rst (n : BitVec 3) : decodeFields (withField 0xC7#8 (n.setWidth 8) 3) 0#8 0#8 = .rst n := by
  revert n; decide

theorem decodeFields_undocNop {n : BitVec 3} (h : n ≠ 0#3) :
    decodeFields (withField 0x00#8 (n.setWidth 8) 3) 0#8 0#8 = .undocNop n := by
  revert n; decide

theorem decodeFields_undocCall {xx : BitVec 2} (h : xx ≠ 0#2) (w : Word) :
    decodeFields (withField 0xCD#8 (xx.setWidth 8) 4) (lo8 w) (hi8 w) = .undocCall xx w := by
  have hxx : xx = 1#2 ∨ xx = 2#2 ∨ xx = 3#2 := by revert xx; decide
  conv_rhs => rw [← joinBytes_hi8_lo8 w]
  obtain rfl | rfl | rfl := hxx <;> rfl

/-- Only a register, a pair or another opcode field has to be known to read the opcode; an operand byte comes back as it is, and
an operand word as the concatenation of its bytes. -/
theorem decode_encode {i : Instr} (rest : List Byte) (h : i.wellFormed = true) :
    decode (encode i ++ rest) = .instr i rest := by
  cases i
  case movRR dst src => cases dst <;> cases src <;> rfl
  case movRM r | movMR r | mviR r _ | inrR r | dcrR r => cases r <;> rfl
  case addR r | adcR r | subR r | sbbR r | anaR r | xraR r | oraR r | cmpR r => cases r <;> rfl
  case ldax p | stax p => cases p <;> rfl
  case inx p | dcx p | dad p => cases p <;> rfl
  case pushRp p | popRp p => cases p <;> rfl
  case rst n =>
    have hdecode := decode_of_length_one (Laws.EncodedLength.rst n _ _ rfl) rest
    exact hdecode.trans (by rw [decodeFields_rst])
  case undocNop n =>
    have hdecode := decode_of_length_one (Laws.EncodedLength.undocNop n _ _ rfl) rest
    exact hdecode.trans (by rw [decodeFields_undocNop (bne_iff_ne.1 h)])
  case undocCall xx w =>
    have hdecode := decode_of_length_three (Laws.EncodedLength.undocCall xx w _ _ rfl) (lo8 w) (hi8 w) rest
    exact hdecode.trans (by rw [decodeFields_undocCall (bne_iff_ne.1 h)])
  case lxi p w =>
    conv_rhs => rw [← joinBytes_hi8_lo8 w]
    cases p <;> rfl
  case lda w | sta w | lhld w | shld w | jmp w | jnz w | jz w | jnc w | jc w | jpo w | jpe w | jp w | jm w | call w | cnz w
      | cz w | cnc w | cc w | cpo w | cpe w | cp w | cm w | undocJmp w =>
    conv_rhs => rw [← joinBytes_hi8_lo8 w]
    rfl
  all_goals rfl

/-- Settles O1, by `decode_encode`. -/
theorem decodeEncodeAgree : Obligations.DecodeEncodeAgree := fun _ rest h => decode_encode rest h

/-- Settles O5: each of the words is the encoding of its instruction, by `encode`'s table, and `decode_encode` reads it back. -/
theorem specimenWords : Obligations.SpecimenWords :=
  ⟨decode_encode (i := .movRR .b .c) [] rfl, decode_encode (i := .lxi .hl 0x2050#16) [] rfl,
    decode_encode (i := .sbbM) [] rfl, decode_encode (i := .ani 0x0F#8) [] rfl, decode_encode (i := .cp 0x2000#16) [] rfl,
    decode_encode (i := .popPsw) [] rfl, decode_encode (i := .hlt) [] rfl,
    decode_encode (i := .undocCall 1#2 0x1234#16) [] rfl⟩

end Sys2Proof
end


section
/-! SUPPORT. A step that runs an instruction (R101, R102, R320): which boundary goes on to the next instruction, what fetching the
stored bytes at PC leaves, and that the instruction executed is the one that the decoder reads from them. -/

namespace Sys2Proof.Machine

/-! ### The boundary -/

theorem State.boundary_of_unasked {ev : HostEvent} {s : State} (hstall : ev.stall.isSome = true)
    (h : s.intInhibit = true ∨ s.inte = false ∨ ev.int = false) :
    s.boundary ev = { s with intInhibit := false }.proceed := by
  obtain ⟨hnone, -⟩ | ⟨-, hgo⟩ | ⟨hinhibit, hinte, hint, -⟩ | ⟨hinhibit, hgo⟩ := s.boundary_cases ev
  · rw [hnone] at hstall; cases hstall
  · exact hgo
  · rw [hinhibit, hinte, hint] at h; simp at h
  · rw [hgo, ← hinhibit]

theorem State.proceed_of_running {s : State} (h : s.halted = false) : s.proceed = s.fetchExec := by
  simp [State.proceed, h]

/-- The state at which a step begins to fetch: its event is used up and int_inhibit cleared. -/
def State.readied (s : State) : State := { s.openStep with intInhibit := false }

/-- A step with no RESET, no interrupt and no halt state fetches and executes. -/
theorem step_of_calm {s : State} (hcalm : s.calm) (hunasked : s.unasked) (hrun : s.halted = false) :
    step s = s.readied.fetchExec := by
  obtain ⟨hreset, hstall⟩ := hcalm
  have hboundary : step s = s.openStep.boundary s.event := by
    obtain ⟨-, hstep⟩ | ⟨hpos, -⟩ | ⟨hlong, -⟩ := step_cases s
    · exact hstep
    · omega
    · omega
  rw [hboundary, State.boundary_of_unasked (s := s.openStep) hstall hunasked]
  exact State.proceed_of_running (s := s.readied) hrun

/-! ### Fetching stored bytes -/

/-- PC moved to `a` and these machine cycles recorded: what fetches change where no other bus master takes part. -/
def State.fetched (s : State) (a : Word) (cs : List BusCycle) : State := { s with pc := a, bus := s.bus ++ cs }

theorem State.fetched_nil (s : State) : s.fetched s.pc [] = s := by
  simp only [State.fetched, List.append_nil]

theorem State.fetchVal_fetched {s : State} (hs : s.soleMaster) {k : Kind} {a : Word} (h : s.stored k a = true)
    (cs : List BusCycle) : (s.fetched a cs).fetchVal k = s.byteAt k a :=
  State.readVal_sole (s := s.fetched a cs) hs h

theorem State.afterFetch_fetched {s : State} (hs : s.soleMaster) {k : Kind} {a : Word} (h : s.stored k a = true)
    (cs : List BusCycle) :
    (s.fetched a cs).afterFetch k = s.fetched (a + 1#16) (cs ++ [k.readCycle a (s.byteAt k a)]) := by
  have hpeek : (s.fetched a cs).peek k a = s.byteAt k a := if_pos h
  have hstored : (s.fetched a cs).stored k a = true := h
  change { (s.fetched a cs).afterRead k a with pc := a + 1#16 } = _
  rw [State.afterRead_sole (s := s.fetched a cs) hs, hpeek, if_pos hstored]
  simp only [State.fetched, List.append_assoc]

/-! ### The instruction executed -/

/-- Fetching and executing at stored bytes, where no other bus master takes part: the instruction that the decoder reads from
them, in the state after their fetches. -/
theorem State.fetchExec_of_decode {s : State} (hs : s.soleMaster) {i : Instr} {rest : List Byte}
    (hdecode : decode (s.bytesFrom s.pc 3) = .instr i rest)
    (hstored : ∀ j < opLength (s.byteAt .opcode s.pc), s.stored .opcode (s.pc + BitVec.ofNat 16 j) = true) :
    s.fetchExec = exec i (s.fetched (s.pc + BitVec.ofNat 16 (opLength (s.byteAt .opcode s.pc)))
      (s.fetchCycles (opLength (s.byteAt .opcode s.pc)))) := by
  have h0 : s.stored .opcode s.pc = true := by simpa using hstored 0 (opLength_pos _)
  have hopcode : s.fetchVal .opcode = s.byteAt .opcode s.pc := State.readVal_sole hs h0
  have hfetch : s.afterFetch .opcode = s.fetched (s.pc + 1#16) [.opcode s.pc (s.byteAt .opcode s.pc)] := by
    simpa [State.fetched_nil, Kind.readCycle] using State.afterFetch_fetched hs h0 []
  have hpc2 : s.pc + 1#16 + 1#16 = s.pc + BitVec.ofNat 16 2 := BitVec.add_assoc _ _ _
  have hpc3 : s.pc + 1#16 + 1#16 + 1#16 = s.pc + BitVec.ofNat 16 3 := by rw [hpc2]; exact BitVec.add_assoc _ _ _
  have hcases := s.fetchExec_cases
  simp only [hopcode, hfetch] at hcases
  obtain ⟨hl, hexec⟩ | ⟨hl, hexec⟩ | ⟨hl, hexec⟩ := hcases <;> rw [hl] at hstored ⊢ <;> rw [hexec]
  · obtain ⟨rfl, -⟩ := Decoded.instr.inj ((decode_of_length_one hl _).symm.trans hdecode)
    rfl
  · have h1 : s.stored .operand (s.pc + 1#16) = true := hstored 1 (by decide)
    obtain ⟨rfl, -⟩ := Decoded.instr.inj ((decode_of_length_two hl _ _).symm.trans hdecode)
    rw [State.fetchVal_fetched hs h1, State.afterFetch_fetched hs h1, hpc2]
    rfl
  · have h1 : s.stored .operand (s.pc + 1#16) = true := hstored 1 (by decide)
    have h2 : s.stored .operand (s.pc + 1#16 + 1#16) = true := by
      rw [hpc2]; exact hstored 2 (by decide)
    obtain ⟨rfl, -⟩ := Decoded.instr.inj ((decode_of_length_three hl _ _ _).symm.trans hdecode)
    rw [State.fetchVal_fetched hs h1, State.afterFetch_fetched hs h1, State.fetchVal_fetched hs h2,
      State.afterFetch_fetched hs h2, hpc3]
    rfl

theorem State.operandCycles_congr {s t : State} (h : ∀ a, t.byteAt .operand a = s.byteAt .operand a) (a : Word) (n : Nat) :
    t.operandCycles a n = s.operandCycles a n := by
  induction n generalizing a with
  | zero => rfl
  | succ n ih => rw [State.operandCycles, State.operandCycles, h, ih]

/-- Opening a step leaves PC and the memories, so the fetches are those of the state before it. -/
theorem State.readied_fetchCycles (s : State) (n : Nat) : s.readied.fetchCycles n = s.fetchCycles n := by
  have hoperands := State.operandCycles_congr (s := s) (t := s.readied) fun _ => rfl
  simp only [State.fetchCycles, hoperands]
  rfl

/-- Settles O6: the step fetches from the readied state (`step_of_calm`), and runs what the decoder reads there. -/
theorem stepRunsDecodedInstruction : Obligations.StepRunsDecodedInstruction := by
  intro s i rest hcalm hunasked hrun hsole hdecode hstored
  rw [step_of_calm hcalm hunasked hrun, State.fetchExec_of_decode (s := s.readied) hsole hdecode hstored,
    State.readied_fetchCycles]
  rfl

end Sys2Proof.Machine
end

section
/-! SUPPORT. The data transfer group (R140 to R153), with INX, DCX, SPHL and CMA: what a load and a store leave on every
platform, what a load answers where no other bus master takes part and its address holds a stored byte, and that a stored byte
reads back (R67, R74). -/

namespace Sys2Proof.Machine

/-! ### Registers and pairs -/

/-- XCHG writes HL, then DE, each from the pair that the other was before (R153). -/
theorem Regs.setDe_setHl_exchange (rs : Regs) :
    (rs.setHl rs.de).setDe rs.hl = { rs with h := rs.d, l := rs.e, d := rs.h, e := rs.l } := by
  simp only [Regs.setHl, Regs.setDe, Regs.hl, Regs.de, hi8_joinBytes, lo8_joinBytes]

/-- Settles O20: XCHG by `Regs.setDe_setHl_exchange`; the others are one write to a register and the clock. -/
theorem registerMoves : Obligations.RegisterMoves := by
  intro s
  have hxchg : exec .xchg s = .next { s with regs := (s.regs.setHl s.regs.de).setDe s.regs.hl, clock := s.clock + 4 } := rfl
  rw [Regs.setDe_setHl_exchange] at hxchg
  exact ⟨fun _ _ => rfl, fun _ _ => rfl, hxchg, rfl⟩

/-- Settles O21: each is one write to a pair and the clock, so it holds by the definitions of `exec` and `State.setPair`. -/
theorem pairMoves : Obligations.PairMoves :=
  fun _ _ => ⟨rfl, rfl, rfl, rfl, rfl, rfl, rfl, rfl, rfl, rfl, rfl, rfl, rfl⟩

/-! ### Loads -/

/-- A load into a register: what the read leaves, with the register and the clock written. -/
theorem State.tick_setReg_afterRead (s : State) (k : Kind) (a : Word) (r : Reg) (v : Byte) (n : Nat) :
    ((s.afterRead k a).setReg r v).tick n
      = { s.afterRead k a with regs := s.regs.set r v, clock := s.clock + n } := by
  simp only [State.tick, State.setReg, State.afterRead_regs, State.afterRead_clock]

/-- A load into HL, as `State.tick_setReg_afterRead`. -/
theorem State.tick_setPair_afterRead16 (s : State) (k : Kind) (a w : Word) (n : Nat) :
    ((s.afterRead16 k a).setPair .hl w).tick n
      = { s.afterRead16 k a with regs := s.regs.setHl w, clock := s.clock + n } := by
  simp only [State.tick, State.setPair, State.afterRead16_regs, State.afterRead16_clock]

/-- A read of a stored byte is its machine cycle and nothing else, where no other bus master takes part. -/
theorem State.afterRead_of_stored {s : State} (h : s.soleMaster) {k : Kind} {a : Word} (hs : s.stored k a = true) :
    s.afterRead k a = s.record (k.readCycle a (s.byteAt k a)) := by
  have hpeek : s.peek k a = s.byteAt k a := if_pos hs
  rw [State.afterRead_sole h, hpeek, if_pos hs]
  rfl

/-- The word that two stored bytes make, the low one first (R67). -/
theorem State.readVal16_sole {s : State} (h : s.soleMaster) {k : Kind} {a : Word} (h0 : s.stored k a = true)
    (h1 : s.stored k (a + 1#16) = true) :
    s.readVal16 k a = joinBytes (s.byteAt k (a + 1#16)) (s.byteAt k a) := by
  have hhigh : (s.record (k.readCycle a (s.byteAt k a))).readVal k (a + 1#16) = s.byteAt k (a + 1#16) :=
    State.readVal_sole (s := s.record (k.readCycle a (s.byteAt k a))) h h1
  rw [State.readVal16, State.readVal_sole h h0, State.afterRead_of_stored h h0, hhigh]

theorem State.afterRead16_of_stored {s : State} (h : s.soleMaster) {k : Kind} {a : Word} (h0 : s.stored k a = true)
    (h1 : s.stored k (a + 1#16) = true) :
    s.afterRead16 k a
      = (s.record (k.readCycle a (s.byteAt k a))).record (k.readCycle (a + 1#16) (s.byteAt k (a + 1#16))) := by
  rw [State.afterRead16, State.afterRead_of_stored h h0]
  exact State.afterRead_of_stored (s := s.record (k.readCycle a (s.byteAt k a))) h h1

/-- A load of a stored byte into a register, where no other bus master takes part. -/
theorem State.load_of_stored {s : State} (h : s.soleMaster) {k : Kind} {a : Word} (hs : s.stored k a = true) (r : Reg)
    (n : Nat) :
    ((s.afterRead k a).setReg r (s.readVal k a)).tick n
      = { s with regs := s.regs.set r (s.byteAt k a), bus := s.bus ++ [k.readCycle a (s.byteAt k a)],
                 clock := s.clock + n } := by
  rw [State.readVal_sole h hs, State.afterRead_of_stored h hs]
  rfl

/-- A load of two stored bytes into L and H, where no other bus master takes part. -/
theorem State.load16_of_stored {s : State} (h : s.soleMaster) {k : Kind} {a : Word} (h0 : s.stored k a = true)
    (h1 : s.stored k (a + 1#16) = true) (n : Nat) :
    ((s.afterRead16 k a).setPair .hl (s.readVal16 k a)).tick n
      = { s with regs := { s.regs with l := s.byteAt k a, h := s.byteAt k (a + 1#16) },
                 bus := s.bus ++ [k.readCycle a (s.byteAt k a), k.readCycle (a + 1#16) (s.byteAt k (a + 1#16))],
                 clock := s.clock + n } := by
  rw [State.readVal16_sole h h0 h1, State.afterRead16_of_stored h h0 h1]
  simp only [State.tick, State.setPair, Regs.setHl, State.record, List.append_assoc, List.cons_append, List.nil_append,
    hi8_joinBytes, lo8_joinBytes]

/-- Settles O22: MOV r,M, LDA and LDAX are one load at different addresses, LHLD is the load of two bytes. -/
theorem loadsReadMemory : Obligations.LoadsReadMemory := by
  intro s
  refine ⟨fun dst => ?_, fun a => ?_, fun p => ?_, fun a => ?_,
    fun hsole => ⟨fun dst hs => ?_, fun a hs => ?_, fun p hs => ?_, fun a h0 h1 => ?_⟩⟩
  · exact congrArg Host.Outcome.next (s.tick_setReg_afterRead .data s.regs.hl dst _ 7)
  · exact congrArg Host.Outcome.next (s.tick_setReg_afterRead .data a .a _ 13)
  · exact congrArg Host.Outcome.next (s.tick_setReg_afterRead .data (s.regs.indexPair p) .a _ 7)
  · exact congrArg Host.Outcome.next (s.tick_setPair_afterRead16 .data a _ 16)
  · exact congrArg Host.Outcome.next (State.load_of_stored hsole hs dst 7)
  · exact congrArg Host.Outcome.next (State.load_of_stored hsole hs .a 13)
  · exact congrArg Host.Outcome.next (State.load_of_stored hsole hs .a 7)
  · exact congrArg Host.Outcome.next (State.load16_of_stored hsole h0 h1 16)

/-! ### Stores -/

/-- A write leaves the clock, so the duration is counted from before it. -/
theorem State.tick_write (s : State) (k : Kind) (a : Word) (v : Byte) (n : Nat) :
    (s.write k a v).tick n = { s.write k a v with clock := s.clock + n } := by
  simp only [State.tick, State.write_clock]

/-- Settles O23: each is its writes and `tick` (`State.tick_write`), SHLD with a second write before it. -/
theorem storesWriteMemory : Obligations.StoresWriteMemory := by
  intro s
  refine ⟨fun src => ?_, fun v => ?_, fun a => ?_, fun p => ?_, fun a => ?_⟩
  · exact congrArg Host.Outcome.next (s.tick_write .data s.regs.hl (s.reg src) 7)
  · exact congrArg Host.Outcome.next (s.tick_write .data s.regs.hl v 10)
  · exact congrArg Host.Outcome.next (s.tick_write .data a s.regs.a 13)
  · exact congrArg Host.Outcome.next (s.tick_write .data (s.regs.indexPair p) s.regs.a 7)
  · have hlow : (s.write .data a s.regs.l).clock = s.clock := s.write_clock .data a s.regs.l
    rw [← hlow]
    exact congrArg Host.Outcome.next ((s.write .data a s.regs.l).tick_write .data (a + 1#16) s.regs.h 16)

@[simp] theorem State.byteAt_tick (n : Nat) (s : State) (k : Kind) (a : Word) :
    (s.tick n).byteAt k a = s.byteAt k a := rfl

theorem State.byteAt_write_same {s : State} (h : s.inv = true) (hs : s.soleMaster) {k : Kind} {a : Word}
    (hw : s.writable k a = true) (v : Byte) : (s.write k a v).byteAt k a = v := by
  rw [State.byteAt_write h hs, if_pos ⟨hw, rfl, rfl⟩]

theorem State.byteAt_write_of_ne {s : State} (h : s.inv = true) (hs : s.soleMaster) (k j : Kind) {a b : Word}
    (hne : b ≠ a) (v : Byte) : (s.write k a v).byteAt j b = s.byteAt j b := by
  rw [State.byteAt_write h hs, if_neg fun ⟨_, _, hab⟩ => hne hab]

/-- The byte that an instruction of one write leaves at its address. -/
theorem byteAt_of_write_next {s t : State} (hinv : s.inv = true) (hs : s.soleMaster) {k : Kind} {a : Word}
    (hw : s.writable k a = true) {v : Byte} {n : Nat} (h : (.next ((s.write k a v).tick n) : Result) = .next t) :
    t.byteAt k a = v := by
  rw [eq_of_next h, State.byteAt_tick, State.byteAt_write_same hinv hs hw]

/-- The bytes that an instruction of two writes, at an address and the next modulo 2^16, leaves there: the second write spares
the first byte. -/
theorem byteAt_of_write_write_next {s t : State} (hinv : s.inv = true) (hs : s.soleMaster) {k : Kind} {a : Word}
    (hw0 : s.writable k a = true) (hw1 : s.writable k (a + 1#16) = true) {v w : Byte} {n : Nat}
    (h : (.next (((s.write k a v).write k (a + 1#16) w).tick n) : Result) = .next t) :
    t.byteAt k a = v ∧ t.byteAt k (a + 1#16) = w := by
  have hinv' := State.inv_write hinv k a v
  have hs' := State.write_soleMaster hs k a v
  have hw' : (s.write k a v).writable k (a + 1#16) = true := by rw [State.write_writable, hw1]
  have hne : a ≠ a + 1#16 := by bv_omega
  rw [eq_of_next h, State.byteAt_tick, State.byteAt_tick]
  constructor
  · rw [State.byteAt_write_of_ne hinv' hs' k k hne, State.byteAt_write_same hinv hs hw0]
  · exact State.byteAt_write_same hinv' hs' hw' w

/-- Settles O24: SHLD is two writes at neighbouring addresses (`byteAt_of_write_write_next`), each of the others one. -/
theorem storedBytesReadBack : Obligations.StoredBytesReadBack := by
  intro s hinv hsole
  refine ⟨fun src t hw h => ?_, fun v t hw h => ?_, fun a t hw h => ?_, fun p t hw h => ?_, fun a t hw0 hw1 h => ?_⟩
  · exact byteAt_of_write_next hinv hsole hw h
  · exact byteAt_of_write_next hinv hsole hw h
  · exact byteAt_of_write_next hinv hsole hw h
  · exact byteAt_of_write_next hinv hsole hw h
  · exact byteAt_of_write_write_next hinv hsole hw0 hw1 h

end Sys2Proof.Machine
end

section
/-! SUPPORT. The arithmetic group (R160 to R177, R184, R185): the adder and the subtraction as sums and differences, the flags of
a result as `flagsFor` of it, what an instruction of the accumulator leaves on every platform, and decimal addition. -/

namespace Sys2Proof.Machine

/-! ### The adder -/

theorem add8_v (a b : Byte) (cin : Bool) : (add8 a b cin).v = a + b + (if cin then 1#8 else 0#8) := by
  cases cin <;> simp [add8, BitVec.ofNat_add]

/-- Settles O17: the carries of the adder are defined as the comparisons asked for. -/
theorem adderSums : Obligations.AdderSums := fun a b cin => ⟨add8_v a b cin, decide_eq_true_iff, decide_eq_true_iff⟩

/-! ### The subtraction -/

theorem sub8_v (a b : Byte) (bin : Bool) : (sub8 a b bin).v = a - b - (if bin then 1#8 else 0#8) := by
  have hadder : (sub8 a b bin).v = a + ~~~b + (if !bin then 1#8 else 0#8) := add8_v a (~~~b) (!bin)
  rw [hadder]
  cases bin <;> simp only [Bool.not_true, Bool.not_false, if_true, Bool.false_eq_true, if_false] <;> bv_omega

/-- The carry of `a + (255 - b) + (1 - bin)` is missing where `a < b + bin`: a borrow. -/
theorem sub8_cy (a b : Byte) (bin : Bool) : (sub8 a b bin).cy = decide (a.toNat < b.toNat + bin.toNat) := by
  have hb := b.isLt
  simp only [sub8, add8, BitVec.toNat_not, ← decide_not, decide_eq_decide]
  cases bin <;> simp only [Bool.not_true, Bool.not_false, Bool.toNat_true, Bool.toNat_false] <;> omega

/-- The carry of the low digits, where the complement has the low digit `15 - b % 16`. -/
theorem sub8_ac (a b : Byte) (bin : Bool) :
    (sub8 a b bin).ac = decide (b.toNat % 16 + bin.toNat ≤ a.toNat % 16) := by
  have hb := b.isLt
  simp only [sub8, add8, BitVec.toNat_not, decide_eq_decide]
  cases bin <;> simp only [Bool.not_true, Bool.not_false, Bool.toNat_true, Bool.toNat_false] <;> omega

/-- Settles O18, by the three equations above. -/
theorem subtractorDifferences : Obligations.SubtractorDifferences := by
  intro a b bin
  rw [sub8_cy, sub8_ac, decide_eq_true_iff, decide_eq_true_iff]
  exact ⟨sub8_v a b bin, Iff.rfl, Iff.rfl⟩

/-! ### The flags of a result -/

theorem Flags.ofAlu_eq (f : Flags) (o : AluOut) : f.ofAlu o = flagsFor o.v o.cy o.ac := rfl

theorem Flags.ofCount_eq (f : Flags) (o : AluOut) : f.ofCount o = flagsFor o.v f.cy o.ac := rfl

/-! ### Addition and subtraction into A -/

/-- A result into A and the flags, in a state `t` with the registers and the clock of `s`: `s` itself, or what a read of memory
has left of it. -/
theorem State.tick_accumulate {s t : State} (hregs : t.regs = s.regs) (hclock : t.clock = s.clock) (o : AluOut) (n : Nat) :
    (t.accumulate o).tick n
      = { t with regs := { s.regs with a := o.v }, flags := flagsFor o.v o.cy o.ac, clock := s.clock + n } := by
  rw [← hregs, ← hclock]
  rfl

/-- The state `t` with a sum of A (R162 to R167) and its flags, from the registers and the clock of `s`. -/
def State.withSum (s : State) (x : Byte) (c : Bool) (n : Nat) (t : State) : State :=
  { t with
    regs := { s.regs with a := s.regs.a + x + (if c then 1#8 else 0#8) }
    flags := flagsFor (s.regs.a + x + (if c then 1#8 else 0#8)) (decide (256 ≤ s.regs.a.toNat + x.toNat + c.toNat))
      (decide (16 ≤ s.regs.a.toNat % 16 + x.toNat % 16 + c.toNat))
    clock := s.clock + n }

theorem State.tick_accumulate_add8 {s t : State} (hregs : t.regs = s.regs) (hclock : t.clock = s.clock) (x : Byte)
    (c : Bool) (n : Nat) : (t.accumulate (add8 s.regs.a x c)).tick n = s.withSum x c n t := by
  rw [State.tick_accumulate hregs hclock, add8_v]
  rfl

theorem exec_adcR (s : State) (src : Reg) : exec (.adcR src) s = .next (s.withSum (s.regs.get src) s.flags.cy 4 s) :=
  congrArg Host.Outcome.next (State.tick_accumulate_add8 rfl rfl (s.regs.get src) s.flags.cy 4)

/-- Settles O26: each form is one addition into A, in `s` or after the read at HL. -/
theorem additionForms : Obligations.AdditionForms := by
  intro s src v
  have hplain (x : Byte) (c : Bool) (n : Nat) := State.tick_accumulate_add8 (s := s) rfl rfl x c n
  have hread (x : Byte) (c : Bool) (n : Nat) := State.tick_accumulate_add8 (s.afterRead_regs .data s.regs.hl)
    (s.afterRead_clock .data s.regs.hl) x c n
  refine ⟨?_, ?_, ?_, exec_adcR s src, ?_, ?_⟩
  · exact congrArg Host.Outcome.next (hplain (s.regs.get src) false 4)
  · exact congrArg Host.Outcome.next (hread (s.readVal .data s.regs.hl) false 7)
  · exact congrArg Host.Outcome.next (hplain v false 7)
  · exact congrArg Host.Outcome.next (hread (s.readVal .data s.regs.hl) s.flags.cy 7)
  · exact congrArg Host.Outcome.next (hplain v s.flags.cy 7)

/-- The state `t` with a difference of A (R168 to R173) and its flags, from the registers and the clock of `s`. -/
def State.withDifference (s : State) (x : Byte) (c : Bool) (n : Nat) (t : State) : State :=
  { t with
    regs := { s.regs with a := s.regs.a - x - (if c then 1#8 else 0#8) }
    flags := flagsFor (s.regs.a - x - (if c then 1#8 else 0#8)) (decide (s.regs.a.toNat < x.toNat + c.toNat))
      (decide (x.toNat % 16 + c.toNat ≤ s.regs.a.toNat % 16))
    clock := s.clock + n }

theorem State.tick_accumulate_sub8 {s t : State} (hregs : t.regs = s.regs) (hclock : t.clock = s.clock) (x : Byte)
    (c : Bool) (n : Nat) : (t.accumulate (sub8 s.regs.a x c)).tick n = s.withDifference x c n t := by
  rw [State.tick_accumulate hregs hclock, sub8_v, sub8_cy, sub8_ac]
  rfl

/-- Settles O27: each form is one subtraction from A, in `s` or after the read at HL. -/
theorem subtractionForms : Obligations.SubtractionForms := by
  intro s src v
  have hplain (x : Byte) (c : Bool) (n : Nat) := State.tick_accumulate_sub8 (s := s) rfl rfl x c n
  have hread (x : Byte) (c : Bool) (n : Nat) := State.tick_accumulate_sub8 (s.afterRead_regs .data s.regs.hl)
    (s.afterRead_clock .data s.regs.hl) x c n
  refine ⟨?_, ?_, ?_, ?_, ?_, ?_⟩
  · exact congrArg Host.Outcome.next (hplain (s.regs.get src) false 4)
  · exact congrArg Host.Outcome.next (hread (s.readVal .data s.regs.hl) false 7)
  · exact congrArg Host.Outcome.next (hplain v false 7)
  · exact congrArg Host.Outcome.next (hplain (s.regs.get src) s.flags.cy 4)
  · exact congrArg Host.Outcome.next (hread (s.readVal .data s.regs.hl) s.flags.cy 7)
  · exact congrArg Host.Outcome.next (hplain v s.flags.cy 7)

/-! ### Counting -/

theorem add8_one_v (x : Byte) : (add8 x 1#8 false).v = x + 1#8 := by
  simpa using add8_v x 1#8 false

theorem sub8_one_v (x : Byte) : (sub8 x 1#8 false).v = x - 1#8 := by
  simpa using sub8_v x 1#8 false

/-- Counting up carries out of the low digit where that digit becomes 0 (R174). -/
theorem add8_one_ac (x : Byte) : (add8 x 1#8 false).ac = decide ((x + 1#8).toNat % 16 = 0) := by
  simp only [add8, decide_eq_decide, Bool.toNat_false, BitVec.toNat_add, BitVec.toNat_ofNat]
  omega

/-- Counting down borrows from the low digit where that digit is 0 (R176). -/
theorem sub8_one_ac (x : Byte) : (sub8 x 1#8 false).ac = decide (x.toNat % 16 ≠ 0) := by
  rw [sub8_ac, decide_eq_decide, Bool.toNat_false, BitVec.toNat_ofNat]
  omega

theorem Flags.ofCount_add8_one (f : Flags) (x : Byte) :
    f.ofCount (add8 x 1#8 false) = flagsFor (x + 1#8) f.cy (decide ((x + 1#8).toNat % 16 = 0)) := by
  rw [Flags.ofCount_eq, add8_one_v, add8_one_ac]

theorem Flags.ofCount_sub8_one (f : Flags) (x : Byte) :
    f.ofCount (sub8 x 1#8 false) = flagsFor (x - 1#8) f.cy (decide (x.toNat % 16 ≠ 0)) := by
  rw [Flags.ofCount_eq, sub8_one_v, sub8_one_ac]

/-- A count of the byte at `a`, read and written back: neither cycle changes the clock. -/
theorem State.tick_write_afterRead (s : State) (a : Word) (v : Byte) (f : Flags) (n : Nat) :
    { (s.afterRead .data a).write .data a v with flags := f }.tick n
      = { (s.afterRead .data a).write .data a v with flags := f, clock := s.clock + n } := by
  simp only [State.tick, State.write_clock, State.afterRead_clock]

/-- Settles O29: the results and flags of counting up and down, put into a register or written back at HL. -/
theorem countForms : Obligations.CountForms := by
  intro s dst up down m
  have hupR : exec (.inrR dst) s = .next { s with
      regs := s.regs.set dst (add8 (s.regs.get dst) 1#8 false).v
      flags := s.flags.ofCount (add8 (s.regs.get dst) 1#8 false), clock := s.clock + 5 } := rfl
  have hdownR : exec (.dcrR dst) s = .next { s with
      regs := s.regs.set dst (sub8 (s.regs.get dst) 1#8 false).v
      flags := s.flags.ofCount (sub8 (s.regs.get dst) 1#8 false), clock := s.clock + 5 } := rfl
  have hupM : exec .inrM s = .next { (s.afterRead .data s.regs.hl).write .data s.regs.hl (add8 m 1#8 false).v with
      flags := s.flags.ofCount (add8 m 1#8 false), clock := s.clock + 10 } :=
    congrArg Host.Outcome.next (s.tick_write_afterRead _ _ _ 10)
  have hdownM : exec .dcrM s = .next { (s.afterRead .data s.regs.hl).write .data s.regs.hl (sub8 m 1#8 false).v with
      flags := s.flags.ofCount (sub8 m 1#8 false), clock := s.clock + 10 } :=
    congrArg Host.Outcome.next (s.tick_write_afterRead _ _ _ 10)
  rw [add8_one_v, Flags.ofCount_add8_one] at hupR hupM
  rw [sub8_one_v, Flags.ofCount_sub8_one] at hdownR hdownM
  exact ⟨hupR, hdownR, hupM, hdownM⟩

/-- Settles O30: `carry16` is the comparison asked for, and the rest is one write to HL and the clock. -/
theorem doubleAdd : Obligations.DoubleAdd := fun _ _ => rfl

/-! ### Decimal adjustment -/

/-- The high test of R185 on the two digits is a comparison with 99H. -/
theorem daaHigh_eq (a : Byte) (f : Flags) : daaHigh a f = (decide (0x99 < a.toNat) || f.cy) := by
  have hdigits : 0x99 < a.toNat ↔ 9 < a.toNat / 16 ∨ 9 ≤ a.toNat / 16 ∧ 9 < a.toNat % 16 := by omega
  rw [Bool.eq_iff_iff]
  simp only [daaHigh, Bool.or_eq_true, Bool.and_eq_true, decide_eq_true_iff, hdigits]
  tauto

/-- The adjustment has the low digit 6 or 0, so it carries out of bit 3 where it has 6 and the digit of A is 10 or more. -/
theorem add8_daaAdjust_ac (a : Byte) (f : Flags) :
    (add8 a (daaAdjust a f) false).ac = (daaLow a f && decide (10 ≤ a.toNat % 16)) := by
  have hdigit : (daaAdjust a f).toNat % 16 = if daaLow a f then 6 else 0 := by
    unfold daaAdjust
    cases daaLow a f <;> cases daaHigh a f <;> rfl
  simp only [add8, hdigit, Bool.toNat_false, Nat.add_zero]
  cases daaLow a f with
  | true => simp
  | false => simp [Nat.mod_lt]

theorem add8_daaAdjust_v (a : Byte) (f : Flags) :
    (add8 a (daaAdjust a f) false).v
      = a + (if daaLow a f then 0x06#8 else 0x00#8) + (if daaHigh a f then 0x60#8 else 0x00#8) := by
  rw [add8_v, daaAdjust, if_neg Bool.false_ne_true, BitVec.add_zero, BitVec.add_assoc]

/-- Settles O31: the adjusting addition by its result and its carry out of bit 3, CY by the high test. -/
theorem decimalAdjust : Obligations.DecimalAdjust := by
  intro s low high sum
  have hlow : daaLow s.regs.a s.flags = low := rfl
  have hhigh : daaHigh s.regs.a s.flags = high := daaHigh_eq s.regs.a s.flags
  have hcy : (s.flags.cy || high) = high := by
    cases h : s.flags.cy <;> simp [high, h]
  have hexec : exec .daa s = .next ((s.accumulate
      { add8 s.regs.a (daaAdjust s.regs.a s.flags) false with
        cy := s.flags.cy || daaHigh s.regs.a s.flags }).tick 4) := rfl
  rw [hexec, State.tick_accumulate rfl rfl, add8_daaAdjust_v, add8_daaAdjust_ac, hlow, hhigh, hcy]

/-! ### Decimal addition -/

/-- Adjusting a sum of two numbers of two decimal digits, `h` the sum of the high digits and `l` that of the low ones with the
carry: 6 skips the six codes that are no digits, in each digit that is 10 or more. -/
theorem decimal_of_adjusted {h l r : Nat} (hh : h ≤ 18) (hl : l ≤ 19)
    (hr : r = (16 * h + l + (if 9 < l then 6 else 0) + (if 0x99 < 16 * h + l then 0x60 else 0)) % 256) :
    r % 16 ≤ 9 ∧ r / 16 ≤ 9 ∧ 10 * (r / 16) + r % 16 + 100 * (decide (0x99 < 16 * h + l)).toNat = 10 * h + l := by
  by_cases hlow : 9 < l <;> by_cases hhigh : 0x99 < 16 * h + l <;>
    simp only [hlow, hhigh, if_true, if_false, decide_true, decide_false, Bool.toNat_true, Bool.toNat_false] at hr ⊢ <;>
    omega

/-- After an addition the low test of R185 sees whether the low digits and the carry make 10 or more: as a digit above 9, or as a
carry out of bit 3. -/
theorem daaLow_add8 {a b : Byte} (ha : packed a) (hb : packed b) (c : Bool) {f : Flags} (hac : f.ac = (add8 a b c).ac) :
    daaLow (add8 a b c).v f = decide (9 < a.toNat % 16 + b.toNat % 16 + c.toNat) := by
  obtain ⟨ha0, -⟩ := ha
  obtain ⟨hb0, -⟩ := hb
  have hc := c.toNat_le
  rw [daaLow, hac, Bool.eq_iff_iff]
  simp only [add8, BitVec.toNat_ofNat, Bool.or_eq_true, decide_eq_true_iff]
  omega

/-- After an addition the high test of R185 sees whether the binary sum is above 99H. -/
theorem daaHigh_add8 (a b : Byte) (c : Bool) {f : Flags} (hcy : f.cy = (add8 a b c).cy) :
    daaHigh (add8 a b c).v f = decide (0x99 < a.toNat + b.toNat + c.toNat) := by
  have ha := a.isLt
  have hb := b.isLt
  have hc := c.toNat_le
  rw [daaHigh_eq, hcy, Bool.eq_iff_iff]
  simp only [add8, BitVec.toNat_ofNat, Bool.or_eq_true, decide_eq_true_iff]
  omega

theorem toNat_add_adjust (a : Byte) (low high : Bool) :
    (a + (if low then 0x06#8 else 0x00#8) + (if high then 0x60#8 else 0x00#8)).toNat
      = (a.toNat + (if low then 6 else 0) + (if high then 0x60 else 0)) % 256 := by
  rw [BitVec.toNat_add, BitVec.toNat_add, Nat.mod_add_mod]
  cases low <;> cases high <;> rfl

/-- What DAA leaves in A and in CY, by its two tests on the state before. -/
theorem daa_result {t u : State} (h : exec .daa t = .next u) :
    u.regs.a.toNat = (t.regs.a.toNat + (if daaLow t.regs.a t.flags then 6 else 0)
      + (if daaHigh t.regs.a t.flags then 0x60 else 0)) % 256 ∧
    u.flags.cy = daaHigh t.regs.a t.flags := by
  rw [daaHigh_eq, eq_of_next ((decimalAdjust t).symm.trans h)]
  exact ⟨toNat_add_adjust _ _ _, rfl⟩

/-- `decimal_of_adjusted` for two packed bytes, their sum modulo 256 and the incoming carry. -/
theorem unpacked_of_adjusted {a b r : Byte} {c cy : Bool} (ha : packed a) (hb : packed b)
    (hr : r.toNat = ((a.toNat + b.toNat + c.toNat) % 256
      + (if 9 < a.toNat % 16 + b.toNat % 16 + c.toNat then 6 else 0)
      + (if 0x99 < a.toNat + b.toNat + c.toNat then 0x60 else 0)) % 256)
    (hcy : cy = decide (0x99 < a.toNat + b.toNat + c.toNat)) :
    packed r ∧ unpacked r + 100 * cy.toNat = unpacked a + unpacked b + c.toNat := by
  obtain ⟨ha0, ha1⟩ := ha
  obtain ⟨hb0, hb1⟩ := hb
  have hc := c.toNat_le
  have hdigits : a.toNat + b.toNat + c.toNat
      = 16 * (a.toNat / 16 + b.toNat / 16) + (a.toNat % 16 + b.toNat % 16 + c.toNat) := by omega
  rw [Nat.add_assoc, Nat.mod_add_mod, ← Nat.add_assoc, hdigits] at hr
  rw [hdigits] at hcy
  obtain ⟨hlow, hhigh, hvalue⟩ := decimal_of_adjusted (by omega) (by omega) hr
  rw [← hcy] at hvalue
  refine ⟨⟨hlow, hhigh⟩, ?_⟩
  unfold unpacked
  omega

/-- Settles O32: the two tests of DAA on what ADC leaves, and `unpacked_of_adjusted`. -/
theorem decimalAddition : Obligations.DecimalAddition := by
  intro s t u src ha hb hadc hdaa
  obtain rfl : t = (s.accumulate (add8 s.regs.a (s.regs.get src) s.flags.cy)).tick 4 := eq_of_next hadc
  have hlow := daaLow_add8 ha hb s.flags.cy (f := s.flags.ofAlu (add8 s.regs.a (s.regs.get src) s.flags.cy)) rfl
  have hhigh := daaHigh_add8 s.regs.a (s.regs.get src) s.flags.cy
    (f := s.flags.ofAlu (add8 s.regs.a (s.regs.get src) s.flags.cy)) rfl
  have hsum : (add8 s.regs.a (s.regs.get src) s.flags.cy).v.toNat
      = (s.regs.a.toNat + (s.regs.get src).toNat + s.flags.cy.toNat) % 256 := BitVec.toNat_ofNat _ _
  obtain ⟨hresult, hcarry⟩ := daa_result hdaa
  simp only [State.tick_regs, State.tick_flags, State.accumulate_regs, State.accumulate_flags, hlow, hhigh, hsum,
    decide_eq_true_iff] at hresult hcarry
  exact unpacked_of_adjusted ha hb hresult hcarry

end Sys2Proof.Machine
end

section
/-! SUPPORT. The logical, compare, rotate and carry group (R190 to R209): the flags of a comparison read from its operands, what a
logical instruction leaves on every platform, and the rotates as arithmetic on A. -/

namespace Sys2Proof.Machine

/-! ### Comparison -/

/-- The flags of a comparison of `a` with `x` (R200 to R202), Z and CY read from the operands as R186 (e) does. -/
def comparisonFlags (a x : Byte) : Flags where
  s := (a - x).getLsbD 7
  z := decide (a = x)
  ac := decide (x.toNat % 16 ≤ a.toNat % 16)
  p := parity8 (a - x)
  cy := decide (a.toNat < x.toNat)

/-- The difference is 0 just where the operands are equal, and its borrow is their unsigned order. -/
theorem Flags.ofAlu_sub8 (f : Flags) (a x : Byte) : f.ofAlu (sub8 a x false) = comparisonFlags a x := by
  have hv : (sub8 a x false).v = a - x := by rw [sub8_v, if_neg Bool.false_ne_true, BitVec.sub_zero]
  have hz : decide (a - x = 0#8) = decide (a = x) := decide_eq_decide.mpr sub_eq_zero
  rw [Flags.ofAlu_eq, hv, sub8_cy, sub8_ac, flagsFor, hz]
  rfl

/-- A comparison with A, in a state `t` that has the clock of `s`: `s` itself, or what a read of memory has left of it. -/
theorem State.tick_compare {s t : State} (hclock : t.clock = s.clock) (x : Byte) (n : Nat) :
    (t.compare (sub8 s.regs.a x false)).tick n
      = { t with flags := comparisonFlags s.regs.a x, clock := s.clock + n } := by
  rw [State.compare, Flags.ofAlu_sub8, ← hclock]
  rfl

/-- Settles O28: each form is one comparison, in `s` or after the read at HL. -/
theorem comparisonForms : Obligations.ComparisonForms := by
  intro s src v
  refine ⟨?_, ?_, ?_⟩
  · exact congrArg Host.Outcome.next (State.tick_compare rfl (s.regs.get src) 4)
  · exact congrArg Host.Outcome.next (State.tick_compare (s.afterRead_clock .data s.regs.hl) (s.readVal .data s.regs.hl) 7)
  · exact congrArg Host.Outcome.next (State.tick_compare rfl v 7)

/-! ### Logical results into A -/

theorem Flags.ofLogic_eq (f : Flags) (v : Byte) (ac : Bool) : f.ofLogic v ac = flagsFor v false ac := rfl

/-- A logical result into A and the flags, in a state `t` as in `State.tick_accumulate`. -/
theorem State.tick_logic {s t : State} (hregs : t.regs = s.regs) (hclock : t.clock = s.clock) (v : Byte) (ac : Bool)
    (n : Nat) :
    (t.logic v ac).tick n
      = { t with regs := { s.regs with a := v }, flags := flagsFor v false ac, clock := s.clock + n } := by
  rw [State.logic, Flags.ofLogic_eq, ← hregs, ← hclock]
  rfl

/-- AC of the conjunction of `a` and `x` by the platform's rule (R190), read from the operands. -/
def conjunctionAc (rule : AndAcRule) (a x : Byte) : Bool :=
  match rule with
  | .orBit3 => a.getLsbD 3 || x.getLsbD 3
  | .set => true
  | .clear => false

/-- `andAc` takes bit 3 of the operands' OR, which is the OR of their bits 3. -/
theorem andAc_eq (rule : AndAcRule) (a x : Byte) : andAc rule a x = conjunctionAc rule a x := by
  cases rule with
  | orBit3 => exact BitVec.getLsbD_or
  | set => rfl
  | clear => rfl

/-- A conjunction into A, in a state `t` that has the platform of `s` too. -/
theorem State.tick_logicAnd {s t : State} (hregs : t.regs = s.regs) (hclock : t.clock = s.clock) (hcfg : t.cfg = s.cfg)
    (x : Byte) (n : Nat) :
    (t.logicAnd x).tick n
      = { t with regs := { s.regs with a := s.regs.a &&& x }
                 flags := flagsFor (s.regs.a &&& x) false (conjunctionAc s.cfg.andAc s.regs.a x)
                 clock := s.clock + n } := by
  rw [State.logicAnd, State.tick_logic hregs hclock, hregs, hcfg, andAc_eq]

/-- Settles O33: each form is one conjunction, in `s` or after the read at HL. -/
theorem conjunctionForms : Obligations.ConjunctionForms := by
  intro s src v conj
  have hplain (x : Byte) (n : Nat) : (s.logicAnd x).tick n = conj x n s := State.tick_logicAnd rfl rfl rfl x n
  have hread (x : Byte) (n : Nat) :
      ((s.afterRead .data s.regs.hl).logicAnd x).tick n = conj x n (s.afterRead .data s.regs.hl) :=
    State.tick_logicAnd (s.afterRead_regs .data s.regs.hl) (s.afterRead_clock .data s.regs.hl)
      (s.afterRead_cfg .data s.regs.hl) x n
  refine ⟨?_, ?_, ?_⟩
  · exact congrArg Host.Outcome.next (hplain (s.regs.get src) 4)
  · exact congrArg Host.Outcome.next (hread (s.readVal .data s.regs.hl) 7)
  · exact congrArg Host.Outcome.next (hplain v 7)

/-- Settles O34: each form is one logical result with AC 0, in `s` or after the read at HL. -/
theorem disjunctionForms : Obligations.DisjunctionForms := by
  intro s src v put m
  have hplain (r : Byte) (n : Nat) : (s.logic r false).tick n = put r n s := State.tick_logic rfl rfl r false n
  have hread (r : Byte) (n : Nat) :
      ((s.afterRead .data s.regs.hl).logic r false).tick n = put r n (s.afterRead .data s.regs.hl) :=
    State.tick_logic (s.afterRead_regs .data s.regs.hl) (s.afterRead_clock .data s.regs.hl) r false n
  refine ⟨?_, ?_, ?_, ?_, ?_, ?_⟩
  · exact congrArg Host.Outcome.next (hplain (s.regs.a ^^^ s.regs.get src) 4)
  · exact congrArg Host.Outcome.next (hread (s.regs.a ^^^ m) 7)
  · exact congrArg Host.Outcome.next (hplain (s.regs.a ^^^ v) 7)
  · exact congrArg Host.Outcome.next (hplain (s.regs.a ||| s.regs.get src) 4)
  · exact congrArg Host.Outcome.next (hread (s.regs.a ||| m) 7)
  · exact congrArg Host.Outcome.next (hplain (s.regs.a ||| v) 7)

/-! ### Rotates -/

/-- The bit that a rotate to the left shifts out. -/
theorem getLsbD_seven (a : Byte) : a.getLsbD 7 = decide (128 ≤ a.toNat) := BitVec.msb_eq_decide a

/-- The bit that a rotate to the right shifts out. -/
theorem getLsbD_zero (a : Byte) : a.getLsbD 0 = decide (a.toNat % 2 = 1) := Nat.testBit_zero a.toNat

/-- A shift to the left frees bit 0, so putting a bit there adds it. -/
theorem shiftLeft_one_or (a : Byte) {b : Byte} {c : Nat} (hb : b.toNat = c) (hc : c < 2) :
    a <<< 1 ||| b = BitVec.ofNat 8 (2 * a.toNat % 256 + c) := by
  have hor : 2 ^ 1 * (a.toNat % 128) + c = 2 ^ 1 * (a.toNat % 128) ||| c := Nat.two_pow_add_eq_or_of_lt hc _
  have hshift : (a <<< 1).toNat = 2 ^ 1 * (a.toNat % 128) := by bv_omega
  have hsum : 2 * a.toNat % 256 + c = 2 ^ 1 * (a.toNat % 128) + c := by omega
  rw [hsum, hor, ← hshift, ← hb, ← BitVec.toNat_or, BitVec.ofNat_toNat, BitVec.setWidth_eq]

/-- A shift to the right frees bit 7, so putting a bit there adds its 128. -/
theorem ushiftRight_one_or (a : Byte) {b : Byte} {c : Nat} (hb : b.toNat = 128 * c) :
    a >>> 1 ||| b = BitVec.ofNat 8 (a.toNat / 2 + 128 * c) := by
  have hlt : (a >>> 1).toNat < 2 ^ 7 := by bv_omega
  have hor : 2 ^ 7 * c + (a >>> 1).toNat = 2 ^ 7 * c ||| (a >>> 1).toNat := Nat.two_pow_add_eq_or_of_lt hlt c
  have hsum : a.toNat / 2 + 128 * c = 2 ^ 7 * c + (a >>> 1).toNat := by bv_omega
  have hbit : 2 ^ 7 * c = b.toNat := hb.symm
  rw [hsum, hor, hbit, ← BitVec.toNat_or, BitVec.ofNat_toNat, BitVec.setWidth_eq, BitVec.or_comm]

/-- Settles O35: the bit shifted out by the two lemmas on bits 7 and 0, the result by the two on shifts, each with the bit that
its rotate shifts in. -/
theorem rotateCarryForms : Obligations.RotateCarryForms := by
  intro s put a
  have hput {r : Byte} {v : Nat} {out cy : Bool} (hr : r = BitVec.ofNat 8 v) (hcy : out = cy) :
      (.next ((s.rotated r out).tick 4) : Result) = .next (put v cy) := by
    rw [hr, hcy]
    rfl
  have hkept : s.regs.a = BitVec.ofNat 8 a := (BitVec.ofNat_toNat 8 s.regs.a).symm
  have hseven : (s.regs.a >>> 7).toNat = a / 128 := by bv_omega
  have hzero : (s.regs.a <<< 7).toNat = 128 * (a % 2) := by bv_omega
  have hcarry : (BitVec.ofNat 8 s.flags.cy.toNat).toNat = s.flags.cy.toNat := by cases s.flags.cy <;> rfl
  have hcarry128 : (BitVec.ofNat 8 (128 * s.flags.cy.toNat)).toNat = 128 * s.flags.cy.toNat := by cases s.flags.cy <;> rfl
  refine ⟨?rlc, ?rrc, ?ral, ?rar, ?cmc, ?stc⟩
  case rlc => exact hput (shiftLeft_one_or s.regs.a hseven (by omega)) (getLsbD_seven s.regs.a)
  case rrc => exact hput (ushiftRight_one_or s.regs.a hzero) (getLsbD_zero s.regs.a)
  case ral => exact hput (shiftLeft_one_or s.regs.a hcarry s.flags.cy.toNat_lt) (getLsbD_seven s.regs.a)
  case rar => exact hput (ushiftRight_one_or s.regs.a hcarry128) (getLsbD_zero s.regs.a)
  case cmc => exact hput hkept rfl
  case stc => exact hput hkept rfl

end Sys2Proof.Machine
end

section
/-! SUPPORT. The branch group (R220 to R249): the eight conditions, one equation for the conditional transfers of all of them, what
a call and a return leave on every platform, and that a word popped after its push is the word (R72). -/

namespace Sys2Proof.Machine

/-! ### Conditions -/

/-- Settles O19: each test is its flag or the flag's negation, by the definition of `Flags.holds`. -/
theorem conditionTests : Obligations.ConditionTests := by
  intro f
  have hnot (b : Bool) : (!b) = true ↔ b = false := Iff.of_eq (Bool.not_eq_true' b)
  exact ⟨hnot f.z, Iff.rfl, hnot f.cy, Iff.rfl, hnot f.p, Iff.rfl, hnot f.s, Iff.rfl⟩

theorem exec_jumpOn (cc : Cond) (a : Word) (s : State) : exec (jumpOn cc a) s = .next (s.jumpIf cc a) := by
  cases cc <;> rfl

theorem exec_callOn (cc : Cond) (a : Word) (s : State) : exec (callOn cc a) s = .next (s.callIf cc a) := by
  cases cc <;> rfl

theorem exec_returnOn (cc : Cond) (s : State) : exec (returnOn cc) s = .next (s.returnIf cc) := by
  cases cc <;> rfl

/-! ### Jumps -/

/-- Settles O36: JMP and PCHL write PC and the clock; a conditional jump does so or falls through (`State.jumpIf_cases`). -/
theorem jumpForms : Obligations.JumpForms := by
  intro s a cc
  refine ⟨rfl, rfl, ?_⟩
  rw [exec_jumpOn]
  obtain ⟨hcond, htaken⟩ | ⟨hcond, hpassed⟩ := s.jumpIf_cases cc a
  · rw [htaken, hcond]
    rfl
  · rw [hpassed, hcond]
    rfl

/-! ### Calls -/

/-- A call: PC pushed, high byte first, with PC and the clock written (R72, R230). -/
theorem State.tick_callTo (s : State) (a : Word) (n : Nat) :
    (s.callTo a).tick n
      = { (s.write .stack (s.sp - 1#16) (hi8 s.pc)).write .stack (s.sp - 2#16) (lo8 s.pc) with
          sp := s.sp - 2#16, pc := a, clock := s.clock + n } := by
  rw [State.tick, State.callTo_clock]
  rfl

/-- Settles O37: every call taken is `State.tick_callTo` at its target; a conditional one is taken or falls through. -/
theorem callForms : Obligations.CallForms := by
  intro s a n cc pushed
  have hpushed (target : Word) (k : Nat) : (s.callTo target).tick k = pushed target k := s.tick_callTo target k
  refine ⟨congrArg Host.Outcome.next (hpushed a 17), congrArg Host.Outcome.next (hpushed (restartTarget n) 11), ?_⟩
  rw [exec_callOn]
  obtain ⟨hcond, htaken⟩ | ⟨hcond, hpassed⟩ := s.callIf_cases cc a
  · rw [htaken, hcond, hpushed]
    rfl
  · rw [hpassed, hcond]
    rfl

/-! ### Returns -/

/-- A return: PC popped, low byte first, with the clock written (R72, R239). -/
theorem State.tick_returnFrom (s : State) (n : Nat) :
    s.returnFrom.tick n
      = { (s.afterRead .stack s.sp).afterRead .stack (s.sp + 1#16) with
          sp := s.sp + 2#16, pc := s.popVal, clock := s.clock + n } := by
  rw [State.tick, State.returnFrom_clock]
  rfl

/-- Settles O38: every return taken is `State.tick_returnFrom`; a conditional one is taken or falls through. -/
theorem returnForms : Obligations.ReturnForms := by
  intro s cc popped
  have hpopped (k : Nat) : s.returnFrom.tick k = popped k := s.tick_returnFrom k
  refine ⟨congrArg Host.Outcome.next (hpopped 10), ?_⟩
  rw [exec_returnOn]
  obtain ⟨hcond, htaken⟩ | ⟨hcond, hpassed⟩ := s.returnIf_cases cc
  · rw [htaken, hcond, hpopped]
    rfl
  · rw [hpassed, hcond]
    rfl

/-! ### A pop after a push -/

/-- The platform alone says where a read answers with the stored byte. -/
theorem State.stored_congr {s u : State} (h : u.cfg = s.cfg) (k : Kind) (a : Word) : u.stored k a = s.stored k a := by
  simp only [State.stored, State.apart, h]

/-- `State.AgreeOutside.byteAt` whatever the record of machine cycles, which no byte depends on. -/
theorem State.byteAt_congr {s u : State} (hcfg : u.cfg = s.cfg) (hmem : u.mem = s.mem) (hstack : u.stackMem = s.stackMem)
    (k : Kind) (a : Word) : u.byteAt k a = s.byteAt k a :=
  State.AgreeOutside.byteAt (t := { u with bus := s.bus }) ⟨hmem, hstack, rfl, hcfg⟩ k a

theorem State.push16_soleMaster {s : State} (h : s.soleMaster) (w : Word) : (s.push16 w).soleMaster :=
  State.write_soleMaster (State.write_soleMaster h .stack (s.sp - 1#16) (hi8 w)) .stack (s.sp - 2#16) (lo8 w)

/-- The two bytes that a push leaves at the new SP, where the stack is writable. -/
theorem State.stackBytes_push16 {s : State} (hinv : s.inv = true) (hs : s.soleMaster)
    (hw1 : s.writable .stack (s.sp - 1#16) = true) (hw2 : s.writable .stack (s.sp - 2#16) = true) (w : Word) :
    (s.push16 w).byteAt .stack (s.sp - 2#16) = lo8 w ∧ (s.push16 w).byteAt .stack (s.sp - 1#16) = hi8 w := by
  have hne : s.sp - 1#16 ≠ s.sp - 2#16 := by bv_omega
  constructor
  · rw [State.byteAt_push16 hinv hs, if_pos ⟨hw2, rfl, rfl⟩]
  · rw [State.byteAt_push16 hinv hs, if_neg fun ⟨_, _, h⟩ => hne h, if_pos ⟨hw1, rfl, rfl⟩]

/-- A word popped after its push, in a state `u` that still has the SP, the memories and the platform which the push left: the
word pushed, its two bytes put together again. -/
theorem State.popVal_of_push16 {s u : State} (hinv : s.inv = true) (hs : s.soleMaster)
    (hw1 : s.writable .stack (s.sp - 1#16) = true) (hw2 : s.writable .stack (s.sp - 2#16) = true) {w : Word}
    (hsp : u.sp = s.sp - 2#16) (hmem : u.mem = (s.push16 w).mem) (hstack : u.stackMem = (s.push16 w).stackMem)
    (hcfg : u.cfg = s.cfg) (hu : u.soleMaster) : u.popVal = w := by
  have hnext : s.sp - 2#16 + 1#16 = s.sp - 1#16 := by bv_omega
  have hstored {b : Word} (hw : s.writable .stack b = true) : u.stored .stack b = true := by
    rw [State.stored_congr hcfg, State.stored_of_writable rfl hw]
  have hcfg' : u.cfg = (s.push16 w).cfg := by rw [hcfg, State.push16_cfg]
  obtain ⟨hlow, hhigh⟩ := State.stackBytes_push16 hinv hs hw1 hw2 w
  have hlow' : u.byteAt .stack (s.sp - 2#16) = lo8 w := by rw [State.byteAt_congr hcfg' hmem hstack, hlow]
  have hhigh' : u.byteAt .stack (s.sp - 1#16) = hi8 w := by rw [State.byteAt_congr hcfg' hmem hstack, hhigh]
  have hpop := State.popVal_sole hu (hsp ▸ hstored hw2) (by rw [hsp, hnext]; exact hstored hw1)
  rw [hpop, hsp, hnext, hlow', hhigh', joinBytes_hi8_lo8]

/-- Settles O39: the RET pops the word that the CALL pushed (`State.popVal_of_push16`); SP goes down by two and up again, and
neither touches a register or a flag. -/
theorem returnUndoesCall : Obligations.ReturnUndoesCall := by
  intro s t u a hinv hsole hw1 hw2 hcall hret
  have ht : t = (s.callTo a).tick 17 := eq_of_next hcall
  have hu : u = t.returnFrom.tick 10 := eq_of_next hret
  have hpop : ((s.callTo a).tick 17).popVal = s.pc :=
    State.popVal_of_push16 hinv hsole hw1 hw2 (s.callTo_sp a) rfl rfl (s.callTo_cfg a) (State.push16_soleMaster hsole s.pc)
  subst ht hu
  refine ⟨hpop, ?_, ?_, ?_⟩
  · rw [State.tick_sp, State.returnFrom_sp, State.tick_sp, State.callTo_sp, BitVec.sub_add_cancel]
  · rw [State.tick_regs, State.returnFrom_regs, State.tick_regs, State.callTo_regs]
  · rw [State.tick_flags, State.returnFrom_flags, State.tick_flags, State.callTo_flags]

end Sys2Proof.Machine
end

section
/-! SUPPORT. The stack, input-output and machine control group (R260 to R277): what a push, a pop and XTHL leave on every platform,
that POP PSW brings back what PUSH PSW stored (R32), and what one input and one output leave (R64). -/

namespace Sys2Proof.Machine

/-! ### Pushes and pops -/

/-- A push: the high byte, then the low byte, with SP and the clock written (R72). -/
theorem State.tick_push16 (s : State) (w : Word) (n : Nat) :
    (s.push16 w).tick n
      = { (s.write .stack (s.sp - 1#16) (hi8 w)).write .stack (s.sp - 2#16) (lo8 w) with
          sp := s.sp - 2#16, clock := s.clock + n } := by
  rw [State.tick, State.push16_clock]
  rfl

/-- A pop into registers and flags, with SP and the clock written (R72). -/
theorem State.tick_load_afterPop (s : State) (rs : Regs) (f : Flags) (n : Nat) :
    { s.afterPop with regs := rs, flags := f }.tick n
      = { (s.afterRead .stack s.sp).afterRead .stack (s.sp + 1#16) with
          regs := rs, flags := f, sp := s.sp + 2#16, clock := s.clock + n } := by
  simp only [State.tick, State.afterPop_clock]
  rfl

/-- The high byte of a word read is the one read second, from the next address (R67). -/
theorem State.hi8_readVal16 (s : State) (k : Kind) (a : Word) :
    hi8 (s.readVal16 k a) = (s.afterRead k a).readVal k (a + 1#16) := hi8_joinBytes _ _

theorem State.lo8_readVal16 (s : State) (k : Kind) (a : Word) : lo8 (s.readVal16 k a) = s.readVal k a := lo8_joinBytes _ _

/-- Settles O40: the forms are a push and a pop; PSW is a word with A as its high and the flag byte as its low byte, taken apart
again. -/
theorem pushPopForms : Obligations.PushPopForms := by
  intro s p pushed t low high
  have hhigh : hi8 s.popVal = high := s.hi8_readVal16 .stack s.sp
  have hlow : lo8 s.popVal = low := s.lo8_readVal16 .stack s.sp
  refine ⟨?pushRp, ?pushPsw, ?popRp, ?popPsw⟩
  case pushRp => exact congrArg Host.Outcome.next (s.tick_push16 (s.regs.stackPair p) 11)
  case pushPsw =>
    have hpush := s.tick_push16 (joinBytes s.regs.a s.flags.byte) 11
    rw [hi8_joinBytes, lo8_joinBytes] at hpush
    exact congrArg Host.Outcome.next hpush
  case popRp => exact congrArg Host.Outcome.next (s.tick_load_afterPop (s.regs.setStackPair p s.popVal) s.afterPop.flags 10)
  case popPsw =>
    rw [← hhigh, ← hlow]
    exact congrArg Host.Outcome.next
      (s.tick_load_afterPop { s.regs with a := hi8 s.popVal } (Flags.ofByte (lo8 s.popVal)) 10)

/-- Settles O41: the word popped is the word pushed (`State.popVal_of_push16`), whose high byte is A and whose low byte is the flag
byte, which reads back as the flags (`Flags.ofByte_byte`). -/
theorem popPswUndoesPush : Obligations.PopPswUndoesPush := by
  intro s t u v hinv hsole hw1 hw2 hpush hsp hmem hstack hcfg husole hpop
  have ht : t = (s.push16 (joinBytes s.regs.a s.flags.byte)).tick 11 := eq_of_next hpush
  have hv : v = { u.afterPop with
      regs := { u.regs with a := hi8 u.popVal }, flags := Flags.ofByte (lo8 u.popVal) }.tick 10 := eq_of_next hpop
  subst ht
  rw [State.tick_sp, State.push16_sp] at hsp
  rw [State.tick_cfg, State.push16_cfg] at hcfg
  have hword : u.popVal = joinBytes s.regs.a s.flags.byte :=
    State.popVal_of_push16 hinv hsole hw1 hw2 hsp hmem hstack hcfg husole
  rw [hword, hi8_joinBytes, lo8_joinBytes, Flags.ofByte_byte] at hv
  subst hv
  refine ⟨rfl, rfl, ?_⟩
  calc u.afterPop.sp = u.sp + 2#16 := u.afterPop_sp
    _ = s.sp := by rw [hsp, BitVec.sub_add_cancel]

/-! ### XTHL -/

/-- The two reads and two writes of XTHL spend no clock states of their own, so its duration is counted from before them. -/
theorem State.tick_exchange (s : State) (rs : Regs) (high low : Byte) (n : Nat) :
    { ((s.afterRead16 .stack s.sp).write .stack (s.sp + 1#16) high).write .stack s.sp low with regs := rs }.tick n
      = { ((s.afterRead16 .stack s.sp).write .stack (s.sp + 1#16) high).write .stack s.sp low with
          regs := rs, clock := s.clock + n } := by
  simp only [State.tick, State.write_clock, State.afterRead16_clock]

/-- Settles O42: the two bytes of the word read become H and L, and the clock is counted by `State.tick_exchange`. -/
theorem exchangeWithTop : Obligations.ExchangeWithTop := by
  intro s t
  have hregs : s.regs.setHl (s.readVal16 .stack s.sp)
      = { s.regs with h := t.readVal .stack (s.sp + 1#16), l := s.readVal .stack s.sp } := by
    rw [Regs.setHl, State.hi8_readVal16, State.lo8_readVal16]
  rw [← hregs]
  exact congrArg Host.Outcome.next (s.tick_exchange _ s.regs.h s.regs.l 18)

/-! ### Input and output -/

theorem State.inputVal_of_nil {s : State} (h : s.host.ioIn = []) : s.inputVal = Config.freeByte s.draws := by
  rw [State.inputVal, h]

theorem State.inputVal_of_cons {s : State} {v : Byte} {rest : List Byte} (h : s.host.ioIn = v :: rest) : s.inputVal = v := by
  rw [State.inputVal, h]

@[simp] theorem State.afterInput_ioIn (p : Byte) (s : State) : (s.afterInput p).host.ioIn = s.host.ioIn.tail := by
  simp [State.afterInput]

@[simp] theorem State.afterInput_draws (p : Byte) (s : State) :
    (s.afterInput p).draws = if s.host.ioIn.isEmpty then s.draws + 1 else s.draws := by
  simp [State.afterInput]

@[simp] theorem State.afterInput_bus (p : Byte) (s : State) :
    (s.afterInput p).bus = s.bus ++ [.input p s.inputVal] := by
  simp [State.afterInput, State.inputVal]

/-- Settles O43, by whether the host's list still holds a byte; the rest is what `State.afterInput` keeps. -/
theorem inputForm : Obligations.InputForm := by
  intro s port
  refine ⟨((s.afterInput port).setReg .a s.inputVal).tick 10, rfl, ?scripted, ?runOut, s.afterInput_flags port,
    s.afterInput_sp port, s.afterInput_pc port, s.afterInput_inte port, s.afterInput_intInhibit port,
    s.afterInput_halted port, s.afterInput_ioOut port, congrArg (· + 10) (s.afterInput_clock port),
    s.inputVal, s.afterInput_bus port⟩
  case scripted =>
    intro v rest h
    simp [State.inputVal_of_cons h, h, Regs.set]
  case runOut =>
    intro h
    simp [State.inputVal_of_nil h, h, Regs.set]

/-- What an output does where no other bus master takes part. -/
theorem State.output_sole {s : State} (h : s.soleMaster) (p v : Byte) :
    s.output p v = { s with ioOut := s.ioOut ++ [{ port := p, v := v }], bus := s.bus ++ [.output p v] } := by
  rw [State.output, State.busTurn_sole h]
  rfl

/-- Settles O44: the record of the output and what it keeps on every platform, and `State.output_sole`. -/
theorem outputForm : Obligations.OutputForm := by
  intro s port
  refine ⟨⟨(s.output port s.regs.a).tick 10, rfl, s.output_ioOut port s.regs.a, s.output_regs port s.regs.a,
    s.output_flags port s.regs.a⟩, fun hsole => ?_⟩
  exact congrArg (fun t : State => Host.Outcome.next (t.tick 10)) (State.output_sole hsole port s.regs.a)

/-! ### Machine control -/

/-- The halt-acknowledge cycle and the halt state, with the clock written, on every platform (R275). -/
theorem exec_hlt (s : State) :
    exec .hlt s = .next { s.busTurn with halted := true, bus := s.bus ++ [.haltAck], clock := s.clock + 7 } := by
  rw [← s.busTurn_bus, ← s.busTurn_clock]
  rfl

/-- Settles O45: EI, DI and NOP are one write to the control state and the clock; HLT is `exec_hlt`, in which another bus master's
turn changes nothing where there is none. -/
theorem controlForms : Obligations.ControlForms := by
  intro s
  refine ⟨rfl, rfl, exec_hlt s, fun hsole => ?_, rfl⟩
  rw [exec_hlt, State.busTurn_sole hsole]

end Sys2Proof.Machine
end

section
/-! SUPPORT. The undocumented opcodes (R280 to R284): what the policy answers, and each opcode as the policy over the effect of the
instruction it duplicates. -/

namespace Sys2Proof.Machine

/-! ### The policy on undocumented opcodes -/

theorem State.underPolicy_of_asDocumented {s : State} (h : s.cfg.undoc = .asDocumented) (t : State) :
    s.underPolicy t = .next t := by
  rw [State.underPolicy, h]

theorem State.underPolicy_of_refuse {s : State} (h : s.cfg.undoc = .refuse) (t : State) :
    s.underPolicy t = .refused .undocumentedOpcode := by
  rw [State.underPolicy, h]

/-! ### The undocumented opcodes -/

theorem exec_undocNop (n : BitVec 3) (s : State) : exec (.undocNop n) s = s.underPolicy (s.tick 4) := rfl

theorem exec_undocJmp (a : Word) (s : State) : exec (.undocJmp a) s = s.underPolicy ((s.goto a).tick 10) := rfl

theorem exec_undocRet (s : State) : exec .undocRet s = s.underPolicy (s.returnFrom.tick 10) := rfl

theorem exec_undocCall (xx : BitVec 2) (a : Word) (s : State) :
    exec (.undocCall xx a) s = s.underPolicy ((s.callTo a).tick 17) := rfl

/-- Settles O46: each opcode is the policy over its documented effect. Under `asDocumented` the policy answers that effect, which
for `*RET` and `*CALL` is by definition the state after RET and after CALL; under `refuse` it refuses whatever the effect. -/
theorem undocumentedForms : Obligations.UndocumentedForms := by
  intro s n xx a
  rw [exec_undocNop, exec_undocJmp, exec_undocRet, exec_undocCall]
  refine ⟨fun hdoc => ?asDocumented, fun hrefuse => ?refuse⟩
  case asDocumented =>
    have hnext := State.underPolicy_of_asDocumented hdoc
    exact ⟨hnext _, hnext _, ⟨s.returnFrom.tick 10, hnext _, rfl⟩, ⟨(s.callTo a).tick 17, hnext _, rfl⟩⟩
  case refuse =>
    have hrefused := State.underPolicy_of_refuse hrefuse
    exact ⟨hrefused _, hrefused _, hrefused _, hrefused _⟩

end Sys2Proof.Machine
end

section
/-! SUPPORT. The boundary (R300 to R337): what stops an instruction (R300), which boundary accepts an interrupt (R306, R302, R311)
and what its entry leaves (R307 to R312), the halt state and the end of a run (R325, R337). -/

namespace Sys2Proof.Machine

/-! ### What stops an instruction -/

/-- Settles O47: the documented instructions answer a state, the others what the policy on undocumented opcodes answers. -/
theorem instructionsNeverFault : Obligations.InstructionsNeverFault := by
  intro i s
  have hpolicy (t : State) :
      (∃ u, s.underPolicy t = .next u) ∨ s.underPolicy t = .refused .undocumentedOpcode ∧ s.cfg.undoc = .refuse := by
    obtain ⟨-, h⟩ | ⟨hrefuse, h⟩ := s.underPolicy_cases t
    · exact .inl ⟨t, h⟩
    · exact .inr ⟨h, hrefuse⟩
  cases i
  case undocNop | undocJmp | undocRet | undocCall => exact hpolicy _
  all_goals exact .inl ⟨_, rfl⟩

/-! ### Which way a boundary goes -/

theorem step_of_noReset {s : State} (h : s.event.resetPeriods = 0) : step s = s.openStep.boundary s.event := by
  obtain ⟨-, hstep⟩ | ⟨hpos, -⟩ | ⟨hlong, -⟩ := step_cases s
  · exact hstep
  · omega
  · omega

theorem State.boundary_of_stuck {ev : HostEvent} (h : ev.stall = none) (s : State) : s.boundary ev = .fault .busHeld := by
  rw [State.boundary, h]

/-- R306: a request at a boundary with INTE 1 and int_inhibit 0 is accepted. -/
theorem State.boundary_of_accepting {ev : HostEvent} {s : State} (hstall : ev.stall.isSome = true)
    (hinhibit : s.intInhibit = false) (hinte : s.inte = true) (hint : ev.int = true) :
    s.boundary ev = s.acceptInterrupt ev := by
  obtain ⟨k, hk⟩ := Option.isSome_iff_exists.1 hstall
  simp [State.boundary, hk, hinhibit, hinte, hint]

theorem step_of_accepting {s : State} (hcalm : s.calm) (hinhibit : s.intInhibit = false) (hinte : s.inte = true)
    (hint : s.event.int = true) : step s = s.openStep.acceptInterrupt s.event := by
  obtain ⟨hreset, hstall⟩ := hcalm
  rw [step_of_noReset hreset]
  exact State.boundary_of_accepting (s := s.openStep) hstall hinhibit hinte hint

/-- Settles O56: opening the step keeps the policy, and acceptance refuses what the policy does not list. -/
theorem otherSuppliedRefused : Obligations.OtherSuppliedRefused := by
  intro s hcalm hinhibit hinte hint houtside
  have hpolicy : s.openStep.cfg.intPolicy.contains s.event.ack1 = false := houtside
  rw [step_of_accepting hcalm hinhibit hinte hint]
  obtain ⟨hinside, -⟩ | ⟨-, hrefused⟩ := s.openStep.acceptInterrupt_cases s.event
  · rw [hpolicy] at hinside; cases hinside
  · exact hrefused

/-- A masked boundary does not depend on INT and the supplied bytes: of the host's event only the stall counts. -/
theorem State.boundary_congr_of_masked {s : State} (hmasked : s.inte = false ∨ s.intInhibit = true) {ev ev' : HostEvent}
    (hstall : ev'.stall = ev.stall) : s.boundary ev' = s.boundary ev := by
  cases hev : ev.stall with
  | none => rw [State.boundary_of_stuck hev, State.boundary_of_stuck (hstall.trans hev)]
  | some k =>
    have hunasked (e : HostEvent) : s.intInhibit = true ∨ s.inte = false ∨ e.int = false := hmasked.symm.imp_right .inl
    rw [State.boundary_of_unasked (by simp [hev]) (hunasked ev),
      State.boundary_of_unasked (by simp [hstall, hev]) (hunasked ev')]

/-- The state of a step whose event has been taken off the script, with the record of cycles anew and the stall passed. -/
def State.opened (s : State) (rest : List HostEvent) (stall : Nat) : State :=
  { s with host := { s.host with events := rest }, bus := [], clock := s.clock + stall }

/-- A step with no RESET by the head and the tail of the host's script. -/
theorem step_of_events {s : State} {ev : HostEvent} {rest : List HostEvent} (hevents : s.host.events = ev :: rest)
    (hreset : ev.resetPeriods = 0) : step s = (s.opened rest (ev.stall.getD 0)).boundary ev := by
  have hev : s.event = ev := by rw [State.event, hevents]
  have hopen : s.openStep = s.opened rest (ev.stall.getD 0) := by rw [State.openStep, hev, hevents]; rfl
  rw [step_of_noReset (hev ▸ hreset), hev, hopen]

/-- Settles O57: both steps open into the same state, at whose masked boundary the two events have the same stall. -/
theorem maskedRequestUnseen : Obligations.MaskedRequestUnseen := by
  intro s ev rest int b1 b2 b3 hevents hmasked hreset
  have hother := step_of_events (s := { s with host := { s.host with
    events := { ev with int := int, ack1 := b1, ack2 := b2, ack3 := b3 } :: rest } }) rfl hreset
  rw [hother, step_of_events hevents hreset]
  exact State.boundary_congr_of_masked (s := s.opened rest (ev.stall.getD 0)) hmasked rfl

/-! ### Interrupt entry -/

theorem toNat_hi8 (w : Word) : (hi8 w).toNat = w.toNat / 256 := by
  rw [hi8, BitVec.toNat_ofNat]; omega

theorem toNat_lo8 (w : Word) : (lo8 w).toNat = w.toNat % 256 := by
  rw [lo8, BitVec.toNat_ofNat]; omega

theorem State.acknowledge_sole {s : State} (h : s.soleMaster) (fromHalt : Bool) (v : Byte) :
    s.acknowledge fromHalt v = s.record (.intAck s.pc v fromHalt) := by
  rw [State.acknowledge, State.busTurn_sole h]

/-- A request accepted (R307) and these acknowledge cycles done, where no other bus master takes part. -/
def State.acknowledged (s : State) (cs : List BusCycle) : State :=
  { s with inte := false, halted := false, bus := s.bus ++ cs }

theorem State.enterByRestart_sole {s : State} (h : s.soleMaster) (op : Byte) :
    s.enterByRestart op
      = ((s.acknowledged [.intAck s.pc op s.halted]).callTo ((op &&& 0x38#8).setWidth 16)).tick 11 := by
  rw [State.enterByRestart, State.acknowledge_sole (s := s.beginInterrupt) h]
  rfl

theorem State.enterByCall_sole {s : State} (h : s.soleMaster) (op low high : Byte) :
    s.enterByCall op low high
      = ((s.acknowledged [.intAck s.pc op s.halted, .intAck s.pc low false, .intAck s.pc high false]).callTo
          (joinBytes high low)).tick 17 := by
  have hacks (cs : List BusCycle) (v : Byte) :
      (s.acknowledged cs).acknowledge false v = s.acknowledged (cs ++ [.intAck s.pc v false]) := by
    rw [State.acknowledge_sole (s := s.acknowledged cs) h, State.acknowledged, State.acknowledged, ← List.append_assoc]
    rfl
  have hfirst : s.beginInterrupt.acknowledge s.halted op = s.acknowledged [.intAck s.pc op s.halted] :=
    State.acknowledge_sole (s := s.beginInterrupt) h s.halted op
  rw [State.enterByCall, hfirst, hacks, hacks]
  rfl

/-- R307, R312: what an entry leaves but for PC, after the acknowledge cycles `cs` and with the call of R309 or R310: the return
address on a writable stack, INTE and halted cleared, the registers and flags kept, `n` states. -/
theorem entry_fields {s : State} (hinv : s.inv = true) (hs : s.soleMaster) (hw1 : s.writable .stack (s.sp - 1#16) = true)
    (hw2 : s.writable .stack (s.sp - 2#16) = true) (cs : List BusCycle) (a : Word) (n : Nat) :
    let t := ((s.openStep.acknowledged cs).callTo a).tick n
    t.sp = s.sp - 2#16 ∧
      (t.byteAt .stack (s.sp - 1#16)).toNat = s.pc.toNat / 256 ∧ (t.byteAt .stack (s.sp - 2#16)).toNat = s.pc.toNat % 256 ∧
      t.inte = false ∧ t.halted = false ∧ t.regs = s.regs ∧ t.flags = s.flags ∧
      t.clock = s.clock + s.event.stall.getD 0 + n ∧
      t.bus.map BusCycle.shape
        = cs.map BusCycle.shape ++ [(0x04#8, some (s.sp - 1#16)), (0x04#8, some (s.sp - 2#16))] := by
  intro t
  let u := s.openStep.acknowledged cs
  obtain ⟨hlow, hhigh⟩ := State.stackBytes_push16 (s := u) hinv hs hw1 hw2 s.pc
  refine ⟨u.callTo_sp a, (congrArg BitVec.toNat hhigh).trans (toNat_hi8 s.pc),
    (congrArg BitVec.toNat hlow).trans (toNat_lo8 s.pc), u.callTo_inte a, u.callTo_halted a, u.callTo_regs a,
    u.callTo_flags a, congrArg (· + n) (u.callTo_clock a), ?_⟩
  have hbus : t.bus = cs ++ [.stackWrite (s.sp - 1#16) (hi8 s.pc), .stackWrite (s.sp - 2#16) (lo8 s.pc)] :=
    State.push16_bus s.pc u
  rw [hbus, List.map_append]
  rfl

/-- R105 (d), R309: the opcode of RST n passes the test of an RST, and its bits 5 to 3 are the target 8n. -/
theorem restart_of_toNat {op : Byte} {n : BitVec 3} (h : op.toNat = 0xC7 + 8 * n.toNat) :
    isRestart op = true ∧ ((op &&& 0x38#8).setWidth 16).toNat = 8 * n.toNat := by
  have hop : op = BitVec.ofNat 8 (0xC7 + 8 * n.toNat) := by rw [← h, BitVec.ofNat_toNat, BitVec.setWidth_eq]
  have hall : ∀ m : BitVec 3, isRestart (BitVec.ofNat 8 (0xC7 + 8 * m.toNat)) = true ∧
      ((BitVec.ofNat 8 (0xC7 + 8 * m.toNat) &&& 0x38#8).setWidth 16).toNat = 8 * m.toNat := by decide
  exact hop ▸ hall n

theorem State.acceptInterrupt_of_restart {ev : HostEvent} {s : State} (hpolicy : s.cfg.intPolicy.contains ev.ack1 = true)
    (hop : isRestart ev.ack1 = true) : s.acceptInterrupt ev = .next (s.enterByRestart ev.ack1) :=
  (if_pos hpolicy).trans (if_pos hop)

theorem State.acceptInterrupt_of_call {ev : HostEvent} {s : State} (hpolicy : s.cfg.intPolicy.contains 0xCD#8 = true)
    (hop : ev.ack1 = 0xCD#8) : s.acceptInterrupt ev = .next (s.enterByCall ev.ack1 ev.ack2 ev.ack3) := by
  have hrestart : isRestart ev.ack1 ≠ true := by rw [hop]; decide
  exact (if_pos (hop ▸ hpolicy)).trans ((if_neg hrestart).trans (if_pos hop))

/-- Settles O54: one acknowledge cycle and the call to 8n; the rest is `entry_fields`. -/
theorem restartEntry : Obligations.RestartEntry := by
  intro s n hinv hsole hcalm hinhibit hinte hint hop hpolicy hw1 hw2
  obtain ⟨hrestart, htarget⟩ := restart_of_toNat hop
  have hstep := step_of_accepting hcalm hinhibit hinte hint
  rw [State.acceptInterrupt_of_restart (s := s.openStep) hpolicy hrestart,
    State.enterByRestart_sole (s := s.openStep) hsole] at hstep
  exact ⟨_, hstep, htarget, entry_fields hinv hsole hw1 hw2 _ _ 11⟩

/-- Settles O55: three acknowledge cycles and the call to the word supplied; the rest is `entry_fields`. -/
theorem callEntry : Obligations.CallEntry := by
  intro s hinv hsole hcalm hinhibit hinte hint hop hpolicy hw1 hw2
  have hstep := step_of_accepting hcalm hinhibit hinte hint
  rw [State.acceptInterrupt_of_call (s := s.openStep) hpolicy hop, State.enterByCall_sole (s := s.openStep) hsole] at hstep
  exact ⟨_, hstep, toNat_joinBytes s.event.ack3 s.event.ack2, entry_fields hinv hsole hw1 hw2 _ _ 17⟩

/-! ### The halt state -/

theorem State.proceed_of_halted {s : State} (h : s.halted = true) : s.proceed = .next s.busTurn := if_pos h

/-- A halt step where no other bus master takes part only readies the state. -/
theorem step_of_halted {s : State} (hcalm : s.calm) (hunasked : s.unasked) (hhalted : s.halted = true)
    (hsole : s.soleMaster) : step s = .next s.readied := by
  obtain ⟨hreset, hstall⟩ := hcalm
  rw [step_of_noReset hreset, State.boundary_of_unasked (s := s.openStep) hstall hunasked]
  exact (State.proceed_of_halted (s := s.readied) hhalted).trans
    (congrArg Host.Outcome.next (State.busTurn_sole (s := s.readied) hsole))

/-- Settles O58: `State.readied` by its fields. -/
theorem haltStutters : Obligations.HaltStutters := fun _ => step_of_halted

/-! ### The end of a run -/

/-- An ended run that nothing will wake: no RESET to come, a host that lets the bus go and no other bus master. -/
structure State.AtRest (s : State) : Prop where
  ended : s.runEnded
  sole : s.soleMaster
  calmEvents : ∀ ev ∈ s.host.events, ev.resetPeriods = 0 ∧ ev.stall.isSome = true

theorem State.AtRest.calm {s : State} (h : s.AtRest) : s.calm := by
  have hcalm := h.calmEvents
  unfold State.calm State.event
  cases hevents : s.host.events with
  | nil => exact ⟨rfl, rfl⟩
  | cons ev rest => exact hcalm ev (hevents ▸ List.mem_cons_self)

theorem State.AtRest.step_eq {s : State} (h : s.AtRest) : Machine.step s = .next s.readied := by
  obtain ⟨hhalted, hinte⟩ := h.ended
  exact step_of_halted h.calm (.inr (.inl hinte)) hhalted h.sole

theorem State.AtRest.readied {s : State} (h : s.AtRest) : s.readied.AtRest :=
  ⟨h.ended, h.sole, fun ev hev => h.calmEvents ev (List.mem_of_mem_tail hev)⟩

/-- The processor's registers, the memories and the outputs are the same. -/
def State.SameContents (s t : State) : Prop :=
  t.regs = s.regs ∧ t.flags = s.flags ∧ t.pc = s.pc ∧ t.sp = s.sp ∧ t.mem = s.mem ∧ t.stackMem = s.stackMem ∧
  t.ioOut = s.ioOut

theorem State.AtRest.of_reaches {s t : State} (hrun : Reaches s t) (h : s.AtRest) : t.AtRest ∧ s.SameContents t := by
  induction hrun with
  | here s => exact ⟨h, rfl, rfl, rfl, rfl, rfl, rfl, rfl⟩
  | step s t u first rest ih =>
    obtain rfl : t = s.readied := eq_of_next (h.step_eq.symm.trans first)
    exact ih h.readied

/-- Settles O59: every state reached is at rest with the same contents, and a state at rest steps (`State.AtRest.step_eq`). -/
theorem endedRunStaysEnded : Obligations.EndedRunStaysEnded := by
  intro s t hended hsole hevents hrun
  obtain ⟨hrest, hregs, hflags, hpc, hsp, hmem, hstack, hout⟩ := State.AtRest.of_reaches hrun ⟨hended, hsole, hevents⟩
  exact ⟨hrest.ended, hregs, hflags, hpc, hsp, hmem, hstack, hout, _, hrest.step_eq⟩

end Sys2Proof.Machine
end

section
/-! SUPPORT. WAIT and HOLD (R326, R327, R359): clock periods spent before an operation, an instruction or a boundary leave its answer
as it is, with the clock that much later. -/

namespace Sys2Proof.Machine

/-! ### Operations after a delay -/

@[simp] theorem State.store_tick (k : Kind) (a : Word) (v : Byte) (n : Nat) (s : State) :
    (s.tick n).store k a v = (s.store k a v).tick n := by
  have hapart : (s.tick n).apart k = s.apart k := rfl
  have hwritable : (s.tick n).writable k a = s.writable k a := rfl
  simp only [State.store, hapart, hwritable]
  split_ifs <;> rfl

@[simp] theorem State.storeAll_tick (ws : List (Word × Byte)) (n : Nat) (s : State) :
    (s.tick n).storeAll ws = (s.storeAll ws).tick n := by
  induction ws generalizing s with
  | nil => rfl
  | cons w ws ih => exact (congrArg (State.storeAll ws) (s.store_tick _ _ _ n)).trans (ih _)

@[simp] theorem State.busTurn_tick (n : Nat) (s : State) : (s.tick n).busTurn = s.busTurn.tick n := by
  obtain ⟨hdma, h⟩ | ⟨ws, rest, hdma, h⟩ := s.busTurn_cases
  · rw [h, State.busTurn_sole (s := s.tick n) hdma]
  · have hdma' : (s.tick n).host.dma = ws :: rest := hdma
    rw [h, ← State.storeAll_tick, State.busTurn, hdma']
    rfl

@[simp] theorem State.readVal_tick (k : Kind) (a : Word) (n : Nat) (s : State) :
    (s.tick n).readVal k a = s.readVal k a := by
  rw [State.readVal, State.busTurn_tick]
  rfl

@[simp] theorem State.afterRead_tick (k : Kind) (a : Word) (n : Nat) (s : State) :
    (s.tick n).afterRead k a = (s.afterRead k a).tick n := by
  rw [State.afterRead, State.busTurn_tick]
  rfl

@[simp] theorem State.write_tick (k : Kind) (a : Word) (v : Byte) (n : Nat) (s : State) :
    (s.tick n).write k a v = (s.write k a v).tick n := by
  rw [State.write, State.busTurn_tick, State.store_tick]
  rfl

@[simp] theorem State.readVal16_tick (k : Kind) (a : Word) (n : Nat) (s : State) :
    (s.tick n).readVal16 k a = s.readVal16 k a := by
  simp only [State.readVal16, State.afterRead_tick, State.readVal_tick]

@[simp] theorem State.afterRead16_tick (k : Kind) (a : Word) (n : Nat) (s : State) :
    (s.tick n).afterRead16 k a = (s.afterRead16 k a).tick n := by
  simp only [State.afterRead16, State.afterRead_tick]

@[simp] theorem State.push16_tick (w : Word) (n : Nat) (s : State) : (s.tick n).push16 w = (s.push16 w).tick n := by
  rw [State.push16, State.write_tick, State.write_tick]
  rfl

@[simp] theorem State.popVal_tick (n : Nat) (s : State) : (s.tick n).popVal = s.popVal :=
  s.readVal16_tick .stack s.sp n

@[simp] theorem State.afterPop_tick (n : Nat) (s : State) : (s.tick n).afterPop = s.afterPop.tick n := by
  rw [State.afterPop, State.afterRead16_tick]
  rfl

@[simp] theorem State.afterInput_tick (p : Byte) (n : Nat) (s : State) :
    (s.tick n).afterInput p = (s.afterInput p).tick n := by
  rw [State.afterInput, State.busTurn_tick]
  rfl

@[simp] theorem State.output_tick (p v : Byte) (n : Nat) (s : State) : (s.tick n).output p v = (s.output p v).tick n := by
  rw [State.output, State.busTurn_tick]
  rfl

@[simp] theorem State.callTo_tick (a : Word) (n : Nat) (s : State) : (s.tick n).callTo a = (s.callTo a).tick n := by
  rw [State.callTo, State.push16_tick]
  rfl

@[simp] theorem State.returnFrom_tick (n : Nat) (s : State) : (s.tick n).returnFrom = s.returnFrom.tick n := by
  rw [State.returnFrom, State.afterPop_tick, State.popVal_tick]
  rfl

theorem State.tick_right_comm (s : State) (m n : Nat) : (s.tick m).tick n = (s.tick n).tick m :=
  congrArg (fun c => { s with clock := c }) (Nat.add_right_comm s.clock m n)

@[simp] theorem State.jumpIf_tick (cc : Cond) (a : Word) (n : Nat) (s : State) :
    (s.tick n).jumpIf cc a = (s.jumpIf cc a).tick n := by
  rw [State.jumpIf, State.jumpIf, State.tick_right_comm, State.tick_flags]
  cases s.flags.holds cc <;> rfl

@[simp] theorem State.callIf_tick (cc : Cond) (a : Word) (n : Nat) (s : State) :
    (s.tick n).callIf cc a = (s.callIf cc a).tick n := by
  simp only [State.callIf, State.tick_flags, State.callTo_tick]
  split_ifs <;> exact State.tick_right_comm _ n _

@[simp] theorem State.returnIf_tick (cc : Cond) (n : Nat) (s : State) :
    (s.tick n).returnIf cc = (s.returnIf cc).tick n := by
  simp only [State.returnIf, State.tick_flags, State.returnFrom_tick]
  split_ifs <;> exact State.tick_right_comm _ n _

/-! ### Instructions after a delay -/

/-- The same answer, with the clock of a state `n` periods later. -/
def delayed (n : Nat) (r : Result) : Result :=
  match r with
  | .next t => .next (t.tick n)
  | .fault f => .fault f
  | .refused why => .refused why

/-- An instruction that takes `m` states after a delay of `n`. -/
theorem delayed_next_tick (s : State) (m n : Nat) :
    delayed n (.next (s.tick m)) = .next ((s.tick n).tick m) :=
  congrArg Host.Outcome.next (s.tick_right_comm m n)

theorem delayed_underPolicy (n : Nat) (s t : State) :
    delayed n (s.underPolicy t) = (s.tick n).underPolicy (t.tick n) := by
  obtain ⟨hdoc, h⟩ | ⟨hrefuse, h⟩ := s.underPolicy_cases t <;> rw [h]
  · exact (State.underPolicy_of_asDocumented (s := s.tick n) hdoc (t.tick n)).symm
  · exact (State.underPolicy_of_refuse (s := s.tick n) hrefuse (t.tick n)).symm

/-- An instruction under the policy of R280 that takes `m` states after a delay of `n`. -/
theorem delayed_underPolicy_tick (s t : State) (m n : Nat) :
    delayed n (s.underPolicy (t.tick m)) = (s.tick n).underPolicy ((t.tick n).tick m) := by
  rw [delayed_underPolicy, State.tick_right_comm]

/-- No instruction reads the clock: its accesses, its conditions and its results are as before the delay. -/
theorem delayed_exec (n : Nat) (i : Instr) (s : State) : delayed n (exec i s) = exec i (s.tick n) := by
  cases i
  case lxi p _ | inx p | dcx p => cases p <;> exact delayed_next_tick _ _ n
  case jnz | jz | jnc | jc | jpo | jpe | jp | jm =>
    exact congrArg Host.Outcome.next (State.jumpIf_tick _ _ n s).symm
  case cnz | cz | cnc | cc | cpo | cpe | cp | cm =>
    exact congrArg Host.Outcome.next (State.callIf_tick _ _ n s).symm
  case rnz | rz | rnc | rc | rpo | rpe | rp | rm =>
    exact congrArg Host.Outcome.next (State.returnIf_tick _ n s).symm
  case movRM | lda | ldax | lhld | addM | adcM | subM | sbbM | anaM | xraM | oraM | cmpM =>
    simp only [exec, execMovRM, execLda, execLdax, execLhld, execAddM, execAdcM, execSubM, execSbbM, execAnaM, execXraM,
      execOraM, execCmpM, State.afterRead_tick, State.readVal_tick, State.afterRead16_tick, State.readVal16_tick]
    exact delayed_next_tick _ _ n
  case movMR | mviM | sta | stax | shld | inrM | dcrM | xthl =>
    simp only [exec, execMovMR, execMviM, execSta, execStax, execShld, execInrM, execDcrM, execXthl, State.write_tick,
      State.afterRead_tick, State.readVal_tick, State.afterRead16_tick, State.readVal16_tick]
    exact delayed_next_tick _ _ n
  case pushRp | pushPsw | popRp | popPsw | call | rst | ret | inPort | outPort | hlt =>
    simp only [exec, execPushRp, execPushPsw, execPopRp, execPopPsw, execCall, execRst, execRet, execInPort, execOutPort,
      execHlt, State.push16_tick, State.afterPop_tick, State.popVal_tick, State.callTo_tick, State.returnFrom_tick,
      State.afterInput_tick, State.output_tick, State.busTurn_tick]
    exact delayed_next_tick _ _ n
  case undocNop | undocJmp => exact delayed_underPolicy_tick s _ _ n
  case undocRet | undocCall =>
    simp only [exec, execUndocRet, execUndocCall, State.callTo_tick, State.returnFrom_tick]
    exact delayed_underPolicy_tick s _ _ n
  all_goals exact delayed_next_tick _ _ n

/-! ### A boundary after a delay -/

@[simp] theorem State.fetchVal_tick (k : Kind) (n : Nat) (s : State) : (s.tick n).fetchVal k = s.fetchVal k :=
  s.readVal_tick k s.pc n

@[simp] theorem State.afterFetch_tick (k : Kind) (n : Nat) (s : State) :
    (s.tick n).afterFetch k = (s.afterFetch k).tick n := by
  rw [State.afterFetch, State.afterRead_tick]
  rfl

theorem delayed_fetchExec (n : Nat) (s : State) : delayed n s.fetchExec = (s.tick n).fetchExec := by
  have hdelayed := (s.tick n).fetchExec_cases
  simp only [State.fetchVal_tick, State.afterFetch_tick, ← delayed_exec] at hdelayed
  obtain ⟨hl, h⟩ | ⟨hl, h⟩ | ⟨hl, h⟩ := s.fetchExec_cases <;> rw [h, eq_comm] <;> simpa [hl] using hdelayed

theorem delayed_proceed (n : Nat) (s : State) : delayed n s.proceed = (s.tick n).proceed := by
  cases hhalted : s.halted with
  | true =>
    rw [State.proceed_of_halted hhalted, State.proceed_of_halted (s := s.tick n) hhalted, State.busTurn_tick]
    rfl
  | false =>
    rw [State.proceed_of_running hhalted, State.proceed_of_running (s := s.tick n) hhalted, delayed_fetchExec]

@[simp] theorem State.acknowledge_tick (fromHalt : Bool) (v : Byte) (n : Nat) (s : State) :
    (s.tick n).acknowledge fromHalt v = (s.acknowledge fromHalt v).tick n := by
  rw [State.acknowledge, State.busTurn_tick]
  rfl

@[simp] theorem State.beginInterrupt_tick (n : Nat) (s : State) : (s.tick n).beginInterrupt = s.beginInterrupt.tick n := rfl

@[simp] theorem State.enterByRestart_tick (op : Byte) (n : Nat) (s : State) :
    (s.tick n).enterByRestart op = (s.enterByRestart op).tick n := by
  simp only [State.enterByRestart, State.beginInterrupt_tick, State.tick_halted, State.acknowledge_tick, State.callTo_tick]
  exact State.tick_right_comm _ n 11

@[simp] theorem State.enterByCall_tick (op low high : Byte) (n : Nat) (s : State) :
    (s.tick n).enterByCall op low high = (s.enterByCall op low high).tick n := by
  simp only [State.enterByCall, State.beginInterrupt_tick, State.tick_halted, State.acknowledge_tick, State.callTo_tick]
  exact State.tick_right_comm _ n 17

theorem delayed_acceptInterrupt (n : Nat) (ev : HostEvent) (s : State) :
    delayed n (s.acceptInterrupt ev) = (s.tick n).acceptInterrupt ev := by
  unfold State.acceptInterrupt
  simp only [State.enterByRestart_tick, State.enterByCall_tick, State.beginInterrupt_tick, State.tick_halted,
    State.acknowledge_tick, ← delayed_exec, State.tick_cfg]
  split_ifs <;> rfl

theorem delayed_boundary (n : Nat) (ev : HostEvent) (s : State) :
    delayed n (s.boundary ev) = (s.tick n).boundary ev := by
  cases hstall : ev.stall with
  | none =>
    rw [State.boundary_of_stuck hstall, State.boundary_of_stuck hstall]
    rfl
  | some k =>
    have hsome : ev.stall.isSome = true := by rw [hstall]; rfl
    by_cases hunasked : s.intInhibit = true ∨ s.inte = false ∨ ev.int = false
    · rw [State.boundary_of_unasked hsome hunasked, State.boundary_of_unasked (s := s.tick n) hsome hunasked]
      exact delayed_proceed n { s with intInhibit := false }
    · simp only [not_or, Bool.not_eq_true, Bool.not_eq_false] at hunasked
      obtain ⟨hinhibit, hinte, hint⟩ := hunasked
      rw [State.boundary_of_accepting hsome hinhibit hinte hint,
        State.boundary_of_accepting (s := s.tick n) hsome hinhibit hinte hint, delayed_acceptInterrupt]

/-- Settles O60: both steps open into one state but for the clock, which `delayed_boundary` carries through; of the stall a
boundary asks only whether it ends. -/
theorem stallOnlyDelays : Obligations.StallOnlyDelays := by
  intro s t ev rest n hevents hreset hstep
  rw [step_of_events hevents hreset] at hstep
  have hlater := step_of_events (s := { s with host := { s.host with events := { ev with stall := some n } :: rest } })
    rfl hreset
  have hdelay := delayed_boundary n { ev with stall := some 0 } (s.opened rest 0)
  rw [hlater]
  exact hdelay.symm.trans (congrArg (delayed n) hstep)

end Sys2Proof.Machine
end

section
/-! SUPPORT. RESET (R340 to R342): what stops a boundary that the bus does not hold, which state a RESET of three periods or more
leaves, and that the cycles completed before one inside an instruction leave their writes and outputs, no more and no less. -/

namespace Sys2Proof.Machine

/-! ### What stops a boundary -/

/-- An outcome that is neither a fault nor the refusal of a short RESET (R341). -/
def AnswersOrRefuses (r : Result) : Prop := (∃ t, r = .next t) ∨ ∃ why, r = .refused why ∧ why ≠ .shortReset

theorem exec_answersOrRefuses (i : Instr) (s : State) : AnswersOrRefuses (exec i s) := by
  obtain h | ⟨h, -⟩ := instructionsNeverFault i s
  · exact .inl h
  · exact .inr ⟨_, h, by decide⟩

theorem State.fetchExec_answersOrRefuses (s : State) : AnswersOrRefuses s.fetchExec := by
  obtain ⟨-, h⟩ | ⟨-, h⟩ | ⟨-, h⟩ := s.fetchExec_cases <;> rw [h] <;> exact exec_answersOrRefuses _ _

theorem State.proceed_answersOrRefuses (s : State) : AnswersOrRefuses s.proceed := by
  unfold State.proceed
  split
  · exact .inl ⟨_, rfl⟩
  · exact s.fetchExec_answersOrRefuses

theorem State.acceptInterrupt_answersOrRefuses (ev : HostEvent) (s : State) : AnswersOrRefuses (s.acceptInterrupt ev) := by
  obtain ⟨-, ⟨-, h⟩ | ⟨-, -, h⟩ | ⟨-, -, -, h⟩ | h⟩ | ⟨-, h⟩ := s.acceptInterrupt_cases ev <;> rw [h]
  · exact .inl ⟨_, rfl⟩
  · exact .inl ⟨_, rfl⟩
  · exact exec_answersOrRefuses _ _
  · exact .inr ⟨_, rfl, nofun⟩
  · exact .inr ⟨_, rfl, nofun⟩

/-- Only a held bus makes a boundary fault (U8, R300). -/
theorem State.boundary_answersOrRefuses {ev : HostEvent} (hstall : ev.stall ≠ none) (s : State) :
    AnswersOrRefuses (s.boundary ev) := by
  obtain ⟨hnone, -⟩ | ⟨-, h⟩ | ⟨-, -, -, h⟩ | ⟨-, h⟩ := s.boundary_cases ev
  · exact absurd hnone hstall
  · rw [h]; exact State.proceed_answersOrRefuses _
  · rw [h]; exact s.acceptInterrupt_answersOrRefuses ev
  · rw [h]; exact s.proceed_answersOrRefuses

/-! ### Which state a RESET leaves -/

@[simp] theorem State.abandon_zero (ev : HostEvent) (s : State) : s.abandon 0 ev = .next s := if_pos rfl

/-- RESET inside a step looks past the WAIT and HOLD of its event, so it never meets a held bus. -/
theorem State.abandon_answersOrRefuses (n : Nat) (ev : HostEvent) (s : State) : AnswersOrRefuses (s.abandon n ev) := by
  have hboundary : AnswersOrRefuses (s.boundary { ev with stall := some 0 }) := s.boundary_answersOrRefuses (Option.some_ne_none 0)
  obtain ⟨-, h⟩ | ⟨-, ⟨_, -, h⟩ | ⟨f, hf, -⟩ | ⟨why, hwhy, h⟩⟩ := s.abandon_cases n ev
  · exact .inl ⟨_, h⟩
  · exact .inl ⟨_, h⟩
  · obtain ⟨_, hnext⟩ | ⟨_, hrefused, -⟩ := hboundary
    · cases hf.symm.trans hnext
    · cases hf.symm.trans hrefused
  · rw [h, ← hwhy]; exact hboundary

/-- `Reset()` after an outcome (R340): what has stopped stays stopped. -/
def thenReset : Result → Result
  | .next t => .next t.resetEvent
  | .fault f => .fault f
  | .refused why => .refused why

theorem step_of_longReset {s : State} (hlong : 3 ≤ s.event.resetPeriods) :
    step s = thenReset (s.openStep.abandon s.event.abandonAfter s.event) := by
  obtain ⟨hzero, -⟩ | ⟨-, hshort, -⟩ | ⟨-, ⟨_, hleft, hstep⟩ | ⟨_, hleft, hstep⟩ | ⟨_, hleft, hstep⟩⟩ := step_cases s
  · omega
  · omega
  all_goals rw [hleft, hstep]; rfl

theorem exists_resetEvent_of_thenReset {r : Result} {t : State} (h : thenReset r = .next t) :
    ∃ u : State, t = u.resetEvent := by
  cases r with
  | next u => exact ⟨u, eq_of_next h⟩
  | fault | refused => cases h

theorem step_of_shortReset {s : State} (hpos : 0 < s.event.resetPeriods) (hshort : s.event.resetPeriods < 3) :
    step s = .refused .shortReset := by
  obtain ⟨hzero, -⟩ | ⟨-, -, hstep⟩ | ⟨hlong, -⟩ := step_cases s
  · omega
  · exact hstep
  · omega

/-- A RESET of three periods or more completes, or what it cut short had been refused before it came. -/
theorem step_of_longReset_cases {s : State} (hlong : 3 ≤ s.event.resetPeriods) :
    (∃ t, step s = .next t) ∨ 0 < s.event.abandonAfter ∧ ∃ why, step s = .refused why ∧ why ≠ .shortReset := by
  rw [step_of_longReset hlong]
  obtain ⟨t, ht⟩ | ⟨why, hwhy, hne⟩ := s.openStep.abandon_answersOrRefuses s.event.abandonAfter s.event
  · exact .inl ⟨t.resetEvent, congrArg thenReset ht⟩
  · have hinside : s.event.abandonAfter ≠ 0 := by
      intro hboundary
      rw [hboundary, State.abandon_zero] at hwhy
      cases hwhy
    exact .inr ⟨Nat.pos_of_ne_zero hinside, why, congrArg thenReset hwhy, hne⟩

/-- Settles O11: at a boundary RESET is `Reset()` of the opened step; everywhere `Reset()` comes last, and the parameters are kept
as by every step (`step_extends`). -/
theorem resetEventState : Obligations.ResetEventState := by
  intro s
  refine ⟨fun hlong hboundary => ?_, fun hlong t h => ?_, step_of_longReset_cases, step_of_shortReset⟩
  · have hstep : step s = .next s.openStep.resetEvent := by
      rw [step_of_longReset hlong, hboundary, State.abandon_zero]; rfl
    exact ⟨_, hstep, rfl, rfl, rfl, rfl, rfl, rfl, rfl, rfl⟩
  · obtain ⟨hcfg, -⟩ := step_extends h
    rw [step_of_longReset hlong] at h
    obtain ⟨u, rfl⟩ := exists_resetEvent_of_thenReset h
    exact ⟨rfl, rfl, rfl, rfl, hcfg⟩

/-! ### What completed cycles leave done -/

theorem State.keepCycle_soleMaster {s : State} (h : s.soleMaster) (c : BusCycle) : (s.keepCycle c).soleMaster := by
  have hturn : s.busTurn.soleMaster := by rw [State.busTurn_sole h]; exact h
  cases c with
  | write a v => exact (congrArg HostScript.dma (s.busTurn.store_host .data a v)).trans hturn
  | stackWrite a v => exact (congrArg HostScript.dma (s.busTurn.store_host .stack a v)).trans hturn
  | opcode | operand | read | stackRead | input | output | intAck | haltAck => exact hturn

/-- Where a write lands is for the platform's parameters to say, not for the rest of the state. -/
theorem State.landed_congr {s u : State} (h : u.cfg = s.cfg) (k : Kind) (a : Word) : u.landed k a = s.landed k a := by
  cases s
  cases u
  subst h
  rfl

theorem State.byteAt_keepCycle {s : State} (hinv : s.inv = true) (hs : s.soleMaster) (c : BusCycle) (k : Kind) (a : Word) :
    (s.keepCycle c).byteAt k a = s.landed k a (s.byteAt k a) c := by
  have hstore (j : Kind) (b : Word) (v : Byte) : (s.busTurn.store j b v).byteAt k a
      = if s.apart k = s.apart j ∧ s.writable j b = true ∧ b = a then v else s.byteAt k a := by
    rw [State.busTurn_sole hs, State.byteAt_store hinv]
    exact if_congr (by tauto) rfl rfl
  have hturn : s.busTurn.byteAt k a = s.byteAt k a := by rw [State.busTurn_sole hs]
  cases c with
  | write b v => exact hstore .data b v
  | stackWrite b v => exact hstore .stack b v
  | opcode | operand | read | stackRead | input | output | intAck | haltAck => exact hturn

/-- R342: the bytes after completed cycles, each cycle's write landing on what the cycles before it left. -/
theorem State.byteAt_foldl_keepCycle {s : State} (hinv : s.inv = true) (hs : s.soleMaster) (cs : List BusCycle) (k : Kind)
    (a : Word) : (cs.foldl State.keepCycle s).byteAt k a = cs.foldl (s.landed k a) (s.byteAt k a) := by
  induction cs generalizing s with
  | nil => rfl
  | cons c cs ih =>
    obtain ⟨hcfg, -⟩ := s.keepCycle_frame c
    rw [List.foldl_cons, ih (State.inv_keepCycle hinv c) (State.keepCycle_soleMaster hs c), State.landed_congr hcfg,
      State.byteAt_keepCycle hinv hs, List.foldl_cons]

theorem State.keepCycle_ioOut (s : State) (c : BusCycle) : (s.keepCycle c).ioOut = s.ioOut ++ c.outEvent.toList := by
  cases c <;> simp [State.keepCycle, BusCycle.outEvent]

theorem State.foldl_keepCycle_ioOut (cs : List BusCycle) (s : State) :
    (cs.foldl State.keepCycle s).ioOut = s.ioOut ++ cs.filterMap BusCycle.outEvent := by
  induction cs generalizing s with
  | nil => exact (List.append_nil s.ioOut).symm
  | cons c cs ih =>
    rw [List.foldl_cons, ih, State.keepCycle_ioOut, List.append_assoc]
    cases hout : c.outEvent <;> simp [hout]

/-! ### RESET inside an instruction that would have completed -/

/-- A boundary reads neither the RESET of its event nor how long the stall is, so one that answers a state answers it still. -/
theorem State.boundary_of_next {ev : HostEvent} {s u : State} (h : s.boundary { ev with resetPeriods := 0 } = .next u) :
    s.boundary { ev with stall := some 0 } = .next u := by
  obtain ⟨periods, after, stall, int, b1, b2, b3⟩ := ev
  cases stall with
  | none => cases h
  | some k => exact h

/-- RESET after `n` cycles of a step that would have answered `u`: also at the boundary, where no cycle has completed. -/
theorem State.abandon_of_next {s u : State} {ev : HostEvent} (h : s.openStep.boundary { ev with stall := some 0 } = .next u)
    (n : Nat) :
    ∃ d, s.openStep.abandon n ev
      = .next { (u.bus.take n).foldl State.keepCycle s.openStep with bus := u.bus.take n, draws := d } := by
  obtain ⟨rfl, hleft⟩ | ⟨-, ⟨t, ht, hleft⟩ | ⟨_, hf, -⟩ | ⟨_, hwhy, -⟩⟩ := s.openStep.abandon_cases n ev
  · exact ⟨s.draws, hleft⟩
  · obtain rfl := eq_of_next (h.symm.trans ht)
    exact ⟨_, hleft⟩
  · cases hf.symm.trans h
  · cases hwhy.symm.trans h

/-- Settles O12: the step without the RESET opens into the same state, so the cycles cut off are its own, and what they leave done
is `State.byteAt_foldl_keepCycle` and `State.foldl_keepCycle_ioOut`. -/
theorem resetKeepsCompletedCycles : Obligations.ResetKeepsCompletedCycles := by
  intro s u ev rest hinv hsole hevents hlong hu
  obtain rfl : s.event = ev := by rw [State.event, hevents]
  have hopen : s.openStep = s.opened rest (s.event.stall.getD 0) := by rw [State.openStep, hevents]; rfl
  rw [step_of_events (ev := { s.event with resetPeriods := 0 }) (rest := rest) rfl rfl] at hu
  have hboundary : s.openStep.boundary { s.event with stall := some 0 } = .next u := by
    rw [hopen]
    exact State.boundary_of_next hu
  obtain ⟨d, hleft⟩ := State.abandon_of_next hboundary s.event.abandonAfter
  refine ⟨_, (step_of_longReset hlong).trans (congrArg thenReset hleft), rfl, fun k a => ?_, ?_, rfl, rfl, rfl, rfl⟩
  · exact State.byteAt_foldl_keepCycle (s := s.openStep) hinv hsole (u.bus.take s.event.abandonAfter) k a
  · exact State.foldl_keepCycle_ioOut (u.bus.take s.event.abandonAfter) s.openStep

end Sys2Proof.Machine
end
